-- ==== Sys2Proof/Word.lean ====
section
/-! DEFINITION. The three word types of the core (R7, R9): bytes, 32-bit words, 64-bit counts, all
unsigned. `+` on them is the spec's `+32` and `+64`: addition modulo 2^32 and 2^64 (R10). -/

namespace Sys2Proof

/-- One item of the byte source and one byte of the padded stream (R7). -/
abbrev Byte := BitVec 8

/-- One word of the Engine and of the block buffer (R7). -/
abbrev Word := BitVec 32

/-- The Bit Counter and the original length (R21, R22). -/
abbrev Count := BitVec 64

end Sys2Proof
end

