-- ==== Sys2Proof/Syntax.lean ====
section
/-! DEFINITION. The operations of the core (R100): one constructor per row of spec/opcode_table.json, and
the selectors they are decoded from (R90 to R95). The core fetches no instruction words; an operation is
named by its format and the value of that format's selector. -/

namespace Sys2Proof

/-- The six formats (R90). -/
inductive Format where
  | pb   -- Reader byte production, selector `psel[5:0]` (R91)
  | ba   -- block assembly, selector `pos[5:0]` (R94)
  | en   -- Engine sequencer, selector `est[2:0]` (R92)
  | rnd  -- round, selector `i[5:0]` (R93)
  | out  -- output functions, empty selector (R95)
  | h    -- host, selector `rst` (R95)
  deriving DecidableEq, Repr

/-- A selector value under its format. Formats narrower than six bits use the low bits. -/
structure Selector where
  format : Format
  bits   : BitVec 6
  deriving DecidableEq, Repr

/-- The 24 operations of R100 and RESET. BA operations carry `wordpos`, RND operations the round index
`i`: the operands of the trace notation (R110). -/
inductive Instr where
  | pbStreamByte
  | pbStreamEos
  | pbStreamFail
  | pbPadzZero
  | pbPadzLen
  | pbLenlo
  | pbLenhi
  | pbExh
  | baB0 (w : BitVec 4)
  | baB1 (w : BitVec 4)
  | baB2 (w : BitVec 4)
  | baB3 (w : BitVec 4)
  | enFetch
  | enSave
  | enRound
  | enChain
  | enDone
  | enFault
  | rndF (i : BitVec 6)
  | rndG (i : BitVec 6)
  | rndH (i : BitVec 6)
  | rndI (i : BitVec 6)
  | outDigest
  | outHex
  | reset
  deriving DecidableEq, Repr

end Sys2Proof
end

