-- ==== Sys2Proof/WellFormed.lean ====
section
/-! DEFINITION. Which operations are well formed: a round operation's index lies in its own quarter
(R93, R161 to R164). The word position of a BA operation is in range by its width (R71). -/

namespace Sys2Proof

/-- The quarter `q = i[5:4]` of a round index (R28, R93). -/
def quarterOf (i : BitVec 6) : BitVec 2 := i.extractLsb' 4 2

/-- `RND.F i=20` is no operation of the core: round 20 is a round of quarter 1. -/
def Instr.wellFormed : Instr → Bool
  | .rndF i => quarterOf i == 0
  | .rndG i => quarterOf i == 1
  | .rndH i => quarterOf i == 2
  | .rndI i => quarterOf i == 3
  | .pbStreamByte | .pbStreamEos | .pbStreamFail | .pbPadzZero | .pbPadzLen | .pbLenlo | .pbLenhi
  | .pbExh | .baB0 _ | .baB1 _ | .baB2 _ | .baB3 _ | .enFetch | .enSave | .enRound | .enChain
  | .enDone | .enFault | .outDigest | .outHex | .reset => true

end Sys2Proof
end

