-- ==== Sys2Proof/Decode.lean ====
section
/-! DEFINITION. From selector values to operations and back (R90 to R101, R107). Decoding is total and
rejects reserved codes by name. The byte form (a selector byte, then a format byte) is the MODEL's own:
the core has no instruction words (R90); log entry 1. -/

namespace Sys2Proof

/-- Why a selector, or its byte form, names no operation. -/
inductive DecodeReject where
  /-- `phase` = 5, 6, 7 (R107). -/
  | reservedPhase
  /-- the source answer code 3 (R96, R107). -/
  | reservedSrcKind
  /-- `est` = 6, 7 (R107). -/
  | reservedEst
  /-- a value with a 1 above the format's selector width. -/
  | selectorTooWide
  /-- format H with `rst = 0`: no operation is selected (R95). -/
  | resetNotAsserted
  /-- byte form: the format byte is none of 0 to 6. -/
  | unknownFormat
  /-- byte form: fewer than two bytes. -/
  | tooShort
  /-- byte form with format byte 0: the number is 64 or more, wider than every selector. -/
  | numberTooWide
  deriving DecidableEq, Repr

/-- Format PB, `psel = phase, kind, at448` (R91, R100 rows 1 to 8); bits not looked at are ignored. -/
def decodePb (b : BitVec 6) : Except DecodeReject Instr :=
  let phase := b.extractLsb' 3 3
  let kind := b.extractLsb' 1 2
  let at448 := b.extractLsb' 0 1
  if phase = 0 then
    if kind = 0 then .ok .pbStreamByte
    else if kind = 1 then .ok .pbStreamEos
    else if kind = 2 then .ok .pbStreamFail
    else .error .reservedSrcKind
  else if phase = 1 then
    if at448 = 1 then .ok .pbPadzLen else .ok .pbPadzZero
  else if phase = 2 then .ok .pbLenlo
  else if phase = 3 then .ok .pbLenhi
  else if phase = 4 then .ok .pbExh
  else .error .reservedPhase

/-- Format BA, `pos = wordpos, bytepos` (R94, R100 rows 9 to 12). -/
def decodeBa (b : BitVec 6) : Except DecodeReject Instr :=
  let w : BitVec 4 := b.extractLsb' 2 4
  let k := b.extractLsb' 0 2
  if k = 0 then .ok (.baB0 w)
  else if k = 1 then .ok (.baB1 w)
  else if k = 2 then .ok (.baB2 w)
  else .ok (.baB3 w)

/-- Format EN, `est` (R92, R100 rows 13 to 18). -/
def decodeEn (b : BitVec 6) : Except DecodeReject Instr :=
  if b.extractLsb' 3 3 ≠ 0 then .error .selectorTooWide
  else
    let est := b.extractLsb' 0 3
    if est = 0 then .ok .enFetch
    else if est = 1 then .ok .enSave
    else if est = 2 then .ok .enRound
    else if est = 3 then .ok .enChain
    else if est = 4 then .ok .enDone
    else if est = 5 then .ok .enFault
    else .error .reservedEst

/-- Format RND, `i = q, t` (R93, R100 rows 19 to 22). -/
def decodeRnd (b : BitVec 6) : Except DecodeReject Instr :=
  let q := quarterOf b
  if q = 0 then .ok (.rndF b)
  else if q = 1 then .ok (.rndG b)
  else if q = 2 then .ok (.rndH b)
  else .ok (.rndI b)

/-- Format H, `rst` (R95, R100 row 25). -/
def decodeH (b : BitVec 6) : Except DecodeReject Instr :=
  if b.extractLsb' 1 5 ≠ 0 then .error .selectorTooWide
  else if b.extractLsb' 0 1 = 1 then .ok .reset
  else .error .resetNotAsserted

/-- Decode one selector under its format (R101). Format OUT's selector is empty: its two operations are
always selected (R95), so `bits` says which of the two is meant (0 OUT.DIGEST, 1 OUT.HEX: the model's
numbering, log entry 1). -/
def decodeSelector (s : Selector) : Except DecodeReject Instr :=
  match s.format with
  | .pb  => decodePb s.bits
  | .ba  => decodeBa s.bits
  | .en  => decodeEn s.bits
  | .rnd => decodeRnd s.bits
  | .out =>
    if s.bits = 0 then .ok .outDigest
    else if s.bits = 1 then .ok .outHex
    else .error .selectorTooWide
  | .h   => decodeH s.bits

/-- The selector of an operation (R100), every bit not looked at written 0. -/
def selectorOf : Instr → Selector
  | .pbStreamByte => ⟨.pb, 0b000000⟩
  | .pbStreamEos  => ⟨.pb, 0b000010⟩
  | .pbStreamFail => ⟨.pb, 0b000100⟩
  | .pbPadzZero   => ⟨.pb, 0b001000⟩
  | .pbPadzLen    => ⟨.pb, 0b001001⟩
  | .pbLenlo      => ⟨.pb, 0b010000⟩
  | .pbLenhi      => ⟨.pb, 0b011000⟩
  | .pbExh        => ⟨.pb, 0b100000⟩
  | .baB0 w       => ⟨.ba, w ++ 0b00#2⟩
  | .baB1 w       => ⟨.ba, w ++ 0b01#2⟩
  | .baB2 w       => ⟨.ba, w ++ 0b10#2⟩
  | .baB3 w       => ⟨.ba, w ++ 0b11#2⟩
  | .enFetch      => ⟨.en, 0b000⟩
  | .enSave       => ⟨.en, 0b001⟩
  | .enRound      => ⟨.en, 0b010⟩
  | .enChain      => ⟨.en, 0b011⟩
  | .enDone       => ⟨.en, 0b100⟩
  | .enFault      => ⟨.en, 0b101⟩
  | .rndF i       => ⟨.rnd, i⟩
  | .rndG i       => ⟨.rnd, i⟩
  | .rndH i       => ⟨.rnd, i⟩
  | .rndI i       => ⟨.rnd, i⟩
  | .outDigest    => ⟨.out, 0⟩
  | .outHex       => ⟨.out, 1⟩
  | .reset        => ⟨.h, 1⟩

/-- The format byte of the model's byte form; 0 is kept for a bare number (log entry 1). -/
def formatByte : Format → Byte
  | .pb => 1 | .ba => 2 | .en => 3 | .rnd => 4 | .out => 5 | .h => 6

/-- The format a format byte names. -/
def formatOfByte (t : Byte) : Option Format :=
  if t = 1 then some .pb else if t = 2 then some .ba else if t = 3 then some .en
  else if t = 4 then some .rnd else if t = 5 then some .out else if t = 6 then some .h
  else none

/-- A bare number with no format (format byte 0): 0 to 7 is read as an `est` selector, 8 to 39 as a
`psel`, 40 to 63 as a round index. The six selectors of spec/opcode_table.json share these numbers, so
one reading had to be picked. DESIGN CHOICE, log entry 1. -/
def decodeBare (n : Byte) : Except DecodeReject Instr :=
  if n < 8 then decodeEn (n.setWidth 6)
  else if n < 40 then decodePb (n.setWidth 6)
  else if n < 64 then decodeRnd (n.setWidth 6)
  else .error .numberTooWide

/-- Decode the byte form: the selector's byte, then the format byte. Answers the operation and the bytes
behind it. -/
def decodeBytes : List Byte → Except DecodeReject (Instr × List Byte)
  | n :: t :: rest =>
    if t = 0 then (decodeBare n).map (·, rest)
    else
      match formatOfByte t with
      | none => .error .unknownFormat
      | some f =>
        if n < 64 then (decodeSelector ⟨f, n.setWidth 6⟩).map (·, rest)
        else .error .selectorTooWide
  | _ => .error .tooShort

/-- The byte form of an operation: its selector, then its format byte. -/
def encode (i : Instr) : List Byte :=
  [(selectorOf i).bits.setWidth 8, formatByte (selectorOf i).format]

/-- The operation a table row's number names, `nbits` wide, bits above `nbits` zero, laid out low byte
first. A row with no bits at all has the empty selector of format OUT (R95). -/
def decodeTableWord (nbits w : Nat) : Option Instr :=
  if nbits = 0 then some .outDigest
  else
    let v := w % 2 ^ nbits
    match decodeBytes [BitVec.ofNat 8 v, BitVec.ofNat 8 (v / 256)] with
    | .ok (i, _) => some i
    | .error _ => none

/-! ### The operation map as the table prints it (R100, R112) -/

/-- One row of the operation map: selected when `selector &&& mask = value`. -/
structure OpRow where
  mnemonic : String
  format   : Format
  value    : BitVec 6
  mask     : BitVec 6
  deriving DecidableEq, Repr

/-- The rows of formats PB and BA (spec/opcode_table.json). -/
def readerRows : List OpRow :=
  [⟨"PB.STREAM.BYTE", .pb, 0, 62⟩, ⟨"PB.STREAM.EOS", .pb, 2, 62⟩, ⟨"PB.STREAM.FAIL", .pb, 4, 62⟩,
   ⟨"PB.PADZ.ZERO", .pb, 8, 57⟩, ⟨"PB.PADZ.LEN", .pb, 9, 57⟩, ⟨"PB.LENLO", .pb, 16, 56⟩,
   ⟨"PB.LENHI", .pb, 24, 56⟩, ⟨"PB.EXH", .pb, 32, 56⟩,
   ⟨"BA.B0", .ba, 0, 3⟩, ⟨"BA.B1", .ba, 1, 3⟩, ⟨"BA.B2", .ba, 2, 3⟩, ⟨"BA.B3", .ba, 3, 3⟩]

/-- The rows of formats EN, RND and H. The two OUT rows have no selector. -/
def engineRows : List OpRow :=
  [⟨"EN.FETCH", .en, 0, 7⟩, ⟨"EN.SAVE", .en, 1, 7⟩, ⟨"EN.ROUND", .en, 2, 7⟩,
   ⟨"EN.CHAIN", .en, 3, 7⟩, ⟨"EN.DONE", .en, 4, 7⟩, ⟨"EN.FAULT", .en, 5, 7⟩,
   ⟨"RND.F", .rnd, 0, 48⟩, ⟨"RND.G", .rnd, 16, 48⟩, ⟨"RND.H", .rnd, 32, 48⟩,
   ⟨"RND.I", .rnd, 48, 48⟩, ⟨"RESET", .h, 1, 1⟩]

/-- The operation map of R100 but for the two OUT rows, which are always selected. -/
def opRows : List OpRow := readerRows ++ engineRows

/-- The row of format `f` whose pattern a selector meets, if any. -/
def rowOf (s : Selector) : Option OpRow :=
  opRows.find? fun r => r.format = s.format && s.bits &&& r.mask = r.value

/-- The mnemonic of an operation (R100). -/
def mnemonicOf : Instr → String
  | .pbStreamByte => "PB.STREAM.BYTE"
  | .pbStreamEos => "PB.STREAM.EOS"
  | .pbStreamFail => "PB.STREAM.FAIL"
  | .pbPadzZero => "PB.PADZ.ZERO"
  | .pbPadzLen => "PB.PADZ.LEN"
  | .pbLenlo => "PB.LENLO"
  | .pbLenhi => "PB.LENHI"
  | .pbExh => "PB.EXH"
  | .baB0 _ => "BA.B0"
  | .baB1 _ => "BA.B1"
  | .baB2 _ => "BA.B2"
  | .baB3 _ => "BA.B3"
  | .enFetch => "EN.FETCH"
  | .enSave => "EN.SAVE"
  | .enRound => "EN.ROUND"
  | .enChain => "EN.CHAIN"
  | .enDone => "EN.DONE"
  | .enFault => "EN.FAULT"
  | .rndF _ => "RND.F"
  | .rndG _ => "RND.G"
  | .rndH _ => "RND.H"
  | .rndI _ => "RND.I"
  | .outDigest => "OUT.DIGEST"
  | .outHex => "OUT.HEX"
  | .reset => "RESET"

end Sys2Proof
end

