-- ==== Sys2Proof/Config.lean ====
section
/-! DEFINITION. What the spec leaves to the surroundings. Every width, count and constant of the core is
fixed (R7). Two things are open and stay uninterpreted here: the type `SrcErr` (R8) and the bytes of a
source that never ends (R62). No operation has a result the spec leaves open. -/

namespace Sys2Proof

/-- A type for the failure information and one value of it, which `State.select` uses to place a failing
source (log entry 6). -/
class SrcErrBase where
  carrier : Type
  sample : carrier

/-- What `SrcErr` may be: any type whose values can be compared and printed, as State must be. The order
is there for its decidable equality alone; no definition compares failure informations by it. -/
class SrcErrType extends SrcErrBase, LinearOrder carrier, Repr carrier

/-- R8, D19, U15: the platform's choice of `SrcErr`, the one type parameter. No body: nothing can be
proved of which type it is (log entry 6). -/
opaque Config.srcErrChoice : Option SrcErrType

/-- The chosen type; where the platform makes no choice, the natural numbers. -/
@[reducible] def Config.srcErrType : SrcErrType :=
  match Config.srcErrChoice with
  | some t => t
  | none =>
    { carrier := Nat, sample := 0, toLinearOrder := inferInstance, toRepr := inferInstance }

/-- R8: the type of the information a failing byte source hands over. The core adds nothing to it and
removes nothing (D19, R212). -/
abbrev SrcErr : Type := Config.srcErrType.carrier

/-- Some failure information. -/
def Config.srcErrSample : SrcErr := Config.srcErrType.sample

/-- R62 (c): byte `n` of the endless source number `k`. A free value: no body, so a statement that holds
of it holds of every infinite sequence of bytes (log entry 3). -/
opaque Config.endlessByte (k n : Nat) : Byte

end Sys2Proof
end

