-- ==== Sys2Proof/Machine/Tables.lean ====
section
/-! DEFINITION. The constant tables `S` (R31) and `K` (R32) and the initial values of the Running State
(R26). Read-only: no operation writes them and RESET does not touch them (R243), so they are constants of
the model and no part of State. -/

namespace Sys2Proof.Machine

/-- R26: `A` at reset. -/
def initA : Word := 0x67452301
/-- R26: `B` at reset. -/
def initB : Word := 0xEFCDAB89
/-- R26: `C` at reset. -/
def initC : Word := 0x98BADCFE
/-- R26: `D` at reset. -/
def initD : Word := 0x10325476

/-- DESIGN CHOICE (log entries 7 and 8): what `M[0..15]` and `A0` to `D0` hold at reset. The spec gives
them no value there (R25, R27, D22) and no result depends on it (R44). -/
def unspecifiedWord : Word := 0

/-- R31: the rotate amounts, four to a quarter. -/
def shiftGroups : List (BitVec 5) :=
  [7, 12, 17, 22] ++ [5, 9, 14, 20] ++ [4, 11, 16, 23] ++ [6, 10, 15, 21]

/-- R31: `S[i] = SQ[q][c]` with `q = i[5:4]` and `c = i[1:0]`. -/
def shiftAmount (i : BitVec 6) : BitVec 5 :=
  shiftGroups.getD (4 * (i.extractLsb' 4 2).toNat + (i.extractLsb' 0 2).toNat) 0

/-- `K[0]` to `K[15]` (R32). -/
def roundConstants0 : List Word :=
  [0xD76AA478, 0xE8C7B756, 0x242070DB, 0xC1BDCEEE,
   0xF57C0FAF, 0x4787C62A, 0xA8304613, 0xFD469501,
   0x698098D8, 0x8B44F7AF, 0xFFFF5BB1, 0x895CD7BE,
   0x6B901122, 0xFD987193, 0xA679438E, 0x49B40821]

/-- `K[16]` to `K[31]` (R32). -/
def roundConstants1 : List Word :=
  [0xF61E2562, 0xC040B340, 0x265E5A51, 0xE9B6C7AA,
   0xD62F105D, 0x02441453, 0xD8A1E681, 0xE7D3FBC8,
   0x21E1CDE6, 0xC33707D6, 0xF4D50D87, 0x455A14ED,
   0xA9E3E905, 0xFCEFA3F8, 0x676F02D9, 0x8D2A4C8A]

/-- `K[32]` to `K[47]` (R32). -/
def roundConstants2 : List Word :=
  [0xFFFA3942, 0x8771F681, 0x6D9D6122, 0xFDE5380C,
   0xA4BEEA44, 0x4BDECFA9, 0xF6BB4B60, 0xBEBFBC70,
   0x289B7EC6, 0xEAA127FA, 0xD4EF3085, 0x04881D05,
   0xD9D4D039, 0xE6DB99E5, 0x1FA27CF8, 0xC4AC5665]

/-- `K[48]` to `K[63]` (R32). -/
def roundConstants3 : List Word :=
  [0xF4292244, 0x432AFF97, 0xAB9423A7, 0xFC93A039,
   0x655B59C3, 0x8F0CCC92, 0xFFEFF47D, 0x85845DD1,
   0x6FA87E4F, 0xFE2CE6E0, 0xA3014314, 0x4E0811A1,
   0xF7537E82, 0xBD3AF235, 0x2AD7D2BB, 0xEB86D391]

/-- R32: the literal table of additive constants. PRESUMED by the spec itself (G1: the standard MD5
table); log entry 15. -/
def roundConstants : List Word :=
  roundConstants0 ++ roundConstants1 ++ roundConstants2 ++ roundConstants3

/-- R32: `K[i]`. -/
def roundConstant (i : BitVec 6) : Word := roundConstants.getD i.toNat 0

end Sys2Proof.Machine
end

