-- ==== Sys2Proof/Machine/State.lean ====
section
/-! DEFINITION. The state of the core (10_state.md), of its two neighbours SRC and HOST as far as a step
reads them, and the state after RESET (R37). -/

namespace Sys2Proof.Machine

/-- R20: the five phases of the Reader. The reserved codes 5 to 7 are unrepresentable (R107). -/
inductive Phase where
  | streaming
  | paddingZeroes
  | lengthLow
  | lengthHigh
  | exhausted
  deriving DecidableEq, Repr

/-- R29: the six states of the Engine's sequencer. The reserved codes 6, 7 are unrepresentable (R107). -/
inductive Est where
  | fetch
  | save
  | round
  | chain
  | done
  | fault
  deriving DecidableEq, Repr

/-- R30, R97: `fault_code`. The reserved codes 2, 3 are unrepresentable (R107). -/
inductive FaultCode where
  | none
  | sourceReadError
  deriving DecidableEq, Repr

/-- R12, R96: one answer of SRC to a pull. -/
inductive SrcAnswer where
  | byte (b : Byte)
  | eos
  | fail (e : SrcErr)
  /-- answer code 3, which SRC must never give (R107) -/
  | reserved
  deriving DecidableEq, Repr

/-- R62: a behaviour of SRC, the sequence of its answers to the coming pulls. Finite sequences end in
`silent` (behaviours a, b, d); behaviour c is `endless`, after any number of answers. Plain data:
log entry 3. -/
inductive Source where
  /-- SRC answers no further pull -/
  | silent
  /-- the endless source number `k` from its byte `n` on: a `Byte` for every pull -/
  | endless (k n : Nat)
  /-- the next pull is answered `a`, the later ones by `rest` -/
  | answer (a : SrcAnswer) (rest : Source)
  deriving DecidableEq, Repr

/-- R118: the answer of the Reader to a byte request. -/
inductive Answer where
  | byte (b : Byte)
  | endOfData
  | sourceReadError (e : SrcErr)
  deriving DecidableEq, Repr

/-- What HOST does at one step (R15, R84, R95). -/
inductive HostAct where
  /-- `rst = 0`, no output read: the core takes its own step -/
  | idle
  /-- `rst = 1` -/
  | rst
  /-- HOST reads `dg[0..15]` -/
  | readDigest
  /-- HOST reads `hex[0..31]` -/
  | readHex
  deriving DecidableEq, Repr

/-- Everything the spec gives the machine, the inputs its two neighbours give it, and three fields of the
model's own (`answer`, `dgRead`, `hexRead`). -/
structure State where
  /-- R20: the Reader State -/
  phase : Phase
  /-- R21: the Bit Counter -/
  bitcnt : Count
  /-- R22: the original length in bits -/
  origlen : Count
  /-- R23: the sub-counter of the length phases -/
  sub : BitVec 2
  /-- R24: word position in the block under assembly -/
  wordpos : BitVec 4
  /-- R24: byte position in that word -/
  bytepos : BitVec 2
  /-- R25: the block buffer BLK -/
  M : Vector Word 16
  /-- R26: the Running State -/
  A : Word
  /-- R26 -/
  B : Word
  /-- R26 -/
  C : Word
  /-- R26 -/
  D : Word
  /-- R27: the values saved at the start of a block -/
  A0 : Word
  /-- R27 -/
  B0 : Word
  /-- R27 -/
  C0 : Word
  /-- R27 -/
  D0 : Word
  /-- R28: the round index -/
  i : BitVec 6
  /-- R29: the sequencer state -/
  est : Est
  /-- R30: the fault code -/
  faultCode : FaultCode
  /-- R30: the failure information; `none` is the spec's own 'no value' -/
  errInfo : Option SrcErr
  /-- R62: what SRC answers to the coming pulls. DESIGN CHOICE, log entry 3 -/
  src : Source
  /-- R15, R95: what HOST does at the coming steps, next first; empty: nothing.
  DESIGN CHOICE, log entry 4 -/
  host : List HostAct
  /-- R118: the result wire of the last byte request, consumed inside the same step by the BA operation.
  DESIGN CHOICE, log entry 10 -/
  answer : Option Answer
  /-- R197: what the last OUT.DIGEST gave HOST. DESIGN CHOICE, log entry 11 -/
  dgRead : Option (List Byte)
  /-- R198: what the last OUT.HEX gave HOST. DESIGN CHOICE, log entry 11 -/
  hexRead : Option (List Char)
  deriving DecidableEq, Repr

/-- Reasons for a model fault: none. The one error of the core, SourceReadError, is an entry the spec
describes (R214) and so a next state; every index is confined by its width (R71), so no access leaves a
file; a byte request that SRC has not answered holds the state (R65, R227). Safe: no step ends here. -/
inductive Fault where
  deriving DecidableEq, Repr

/-- Why a step or an operation has no meaning. -/
inductive Refusal where
  /-- An arm of `exec` whose operation has no meaning yet. Safe. -/
  | notModelled (mnemonic : String)
  /-- Raised by every meaning whose `require` line does not hold, that is for an operation the control
  point does not select (R101, U5); no step of the machine meets it. Safe. -/
  | notSelected (mnemonic : String)
  /-- Raised by a byte request in `Streaming` that SRC answers with the reserved code 3 (R107). Safe. -/
  | reservedSrcKind
  /-- Raised by BA.B1, BA.B2, BA.B3 when the byte request signals EndOfData (R145). Safe. -/
  | endOfDataInsideWord
  deriving DecidableEq, Repr

/-- What an operation or a step answers. -/
abbrev Out := Host.Outcome State Fault Refusal

/-- R37: the state after RESET, with no source connected and HOST idle. -/
def State.reset : State where
  phase := .streaming
  bitcnt := 0
  origlen := 0
  sub := 0
  wordpos := 0
  bytepos := 0
  M := Vector.replicate 16 unspecifiedWord
  A := initA
  B := initB
  C := initC
  D := initD
  A0 := unspecifiedWord
  B0 := unspecifiedWord
  C0 := unspecifiedWord
  D0 := unspecifiedWord
  i := 0
  est := .fetch
  faultCode := .none
  errInfo := none
  src := .silent
  host := []
  answer := none
  dgRead := none
  hexRead := none

end Sys2Proof.Machine
end

