-- ==== Sys2Proof/Machine/Operands.lean ====
section
/-! DEFINITION. How the values an operation works on are formed (R99), the rotate (R10), the byte lanes
(R9), and the codes of phases, sequencer states, answers and digits (R20, R29, R96 to R98). -/

namespace Sys2Proof.Machine

/-- R10: `rotl32(x, n)`; `x` itself for `n = 0` (D28). -/
def rotl32 (x : Word) (n : Nat) : Word :=
  if n = 0 then x else (x <<< n) ||| (x >>> (32 - n))

/-- R99: the message word index `g` of round `i`: `i`, `5i + 1`, `3i + 5`, `7i` modulo 16. -/
def wordIndexF (i : BitVec 6) : BitVec 4 := BitVec.ofNat 4 i.toNat
/-- R99, R162. -/
def wordIndexG (i : BitVec 6) : BitVec 4 := BitVec.ofNat 4 (5 * i.toNat + 1)
/-- R99, R163. -/
def wordIndexH (i : BitVec 6) : BitVec 4 := BitVec.ofNat 4 (3 * i.toNat + 5)
/-- R99, R164. -/
def wordIndexI (i : BitVec 6) : BitVec 4 := BitVec.ofNat 4 (7 * i.toNat)

/-- R161: the nonlinear function of quarter 0. -/
def mixF (b c d : Word) : Word := (b &&& c) ||| (~~~b &&& d)
/-- R162: the nonlinear function of quarter 1. -/
def mixG (b c d : Word) : Word := (d &&& b) ||| (~~~d &&& c)
/-- R163: the nonlinear function of quarter 2. -/
def mixH (b c d : Word) : Word := b ^^^ c ^^^ d
/-- R164: the nonlinear function of quarter 3. -/
def mixI (b c d : Word) : Word := c ^^^ (b ||| ~~~d)

/-- R9: byte `k` of a word. -/
def lane (w : Word) (k : Nat) : Byte := w.extractLsb' (8 * k) 8

/-- R149: a byte, zero-extended and shifted into lane `k`. -/
def intoLane (b : Byte) (k : Nat) : Word := (b.setWidth 32) <<< (8 * k)

/-- R99: byte `sub` of the low half of the original length. -/
def lengthByteLow (origlen : Count) (sub : BitVec 2) : Byte :=
  origlen.extractLsb' (8 * sub.toNat) 8

/-- R99: byte `sub` of the high half of the original length. -/
def lengthByteHigh (origlen : Count) (sub : BitVec 2) : Byte :=
  origlen.extractLsb' (32 + 8 * sub.toNat) 8

/-- R99: the terminator. -/
def terminator : Byte := 0x80

/-- R99: the zero byte of padding. -/
def zeroByte : Byte := 0x00

/-- R20: the code of a phase. -/
def phaseCode : Phase → BitVec 3
  | .streaming => 0 | .paddingZeroes => 1 | .lengthLow => 2 | .lengthHigh => 3 | .exhausted => 4

/-- R29: the code of a sequencer state. -/
def estCode : Est → BitVec 3
  | .fetch => 0 | .save => 1 | .round => 2 | .chain => 3 | .done => 4 | .fault => 5

/-- R96: the code of an answer of SRC. -/
def kindCode : SrcAnswer → BitVec 2
  | .byte _ => 0 | .eos => 1 | .fail _ => 2 | .reserved => 3

/-- R12: the answer to the next pull; none where SRC does not answer. -/
def Source.head? : Source → Option SrcAnswer
  | .silent => none
  | .endless k n => some (.byte (Config.endlessByte k n))
  | .answer a _ => some a

/-- R64: the source after one pull, which consumes the answer it returns. -/
def Source.rest : Source → Source
  | .silent => .silent
  | .endless k n => .endless k (n + 1)
  | .answer _ r => r

/-- R62: these answers, then the source `r`. -/
def Source.ofAnswers (answers : List SrcAnswer) (r : Source) : Source :=
  answers.foldr .answer r

/-- R97: the code of the fault register. -/
def faultCodeBits : FaultCode → BitVec 2
  | .none => 0 | .sourceReadError => 1

/-- R98: one lowercase hexadecimal digit. -/
def hexdigit (v : BitVec 4) : Char :=
  ['0', '1', '2', '3', '4', '5', '6', '7', '8', '9', 'a', 'b', 'c', 'd', 'e', 'f'].getD v.toNat '0'

/-- R98: the ASCII code of that digit (G3). -/
def hexdigitCode (v : BitVec 4) : Byte :=
  if v ≤ 9 then 0x30 + v.setWidth 8 else 0x61 + (v.setWidth 8 - 10)

/-- R197: a word as 4 bytes, least significant first. -/
def wordBytes (w : Word) : List Byte := [lane w 0, lane w 1, lane w 2, lane w 3]

/-- R198: a byte as 2 digits, high nibble first. -/
def byteDigits (b : Byte) : List Char :=
  [hexdigit (b.extractLsb' 4 4), hexdigit (b.extractLsb' 0 4)]

/-- R24: `pos = wordpos, bytepos`. -/
def State.pos (s : State) : BitVec 6 := s.wordpos ++ s.bytepos

/-- R149: load of a block word by a round operation. -/
def State.readBlk (s : State) (g : BitVec 4) : Word := s.M[g.toNat]'(g.isLt)

/-- R60: byte `a` of the block buffer, numbered like `pos`: lane `a[1:0]` of word `a[5:2]`. -/
def State.blkByte (s : State) (a : BitVec 6) : Byte :=
  lane (s.readBlk (a.extractLsb' 2 4)) (a.extractLsb' 0 2).toNat

/-- R197: the 16 digest bytes. -/
def State.dg (s : State) : List Byte :=
  wordBytes s.A ++ wordBytes s.B ++ wordBytes s.C ++ wordBytes s.D

/-- R198: the 32 characters. -/
def State.hex (s : State) : List Char := s.dg.flatMap byteDigits

/-- R84, D18: the `digest` signal: `A` in the low word, `D` in the high word. -/
def State.digestBus (s : State) : BitVec 128 := s.D ++ s.C ++ s.B ++ s.A

/-- R198: the ASCII codes of the 32 characters, character 0 first. -/
def State.hexCodes (s : State) : List Byte :=
  s.dg.flatMap fun b => [hexdigitCode (b.extractLsb' 4 4), hexdigitCode (b.extractLsb' 0 4)]

/-- R84, D18: the `hex` signal: character `k` in bits `8k+7:8k`. -/
def State.hexBus (s : State) : BitVec 256 :=
  BitVec.ofNat 256 (s.hexCodes.foldr (fun c acc => c.toNat + 256 * acc) 0)

end Sys2Proof.Machine
end

