-- ==== Sys2Proof/Machine/Flags.lean ====
section
/-! DEFINITION. The status of the core: functions of the registers, no storage of their own (R33). There
are no arithmetic flags. -/

namespace Sys2Proof.Machine

/-- R91: `bitcnt mod 512 = 448`. -/
def State.at448 (s : State) : Bool := s.bitcnt.extractLsb' 0 9 == 0x1C0

/-- R33: the Reader answers every byte request with EndOfData. -/
def State.eod (s : State) : Bool := s.phase == .exhausted

/-- R33: `A`, `B`, `C`, `D` hold the digest. -/
def State.digestValid (s : State) : Bool := s.est == .done

/-- R33: a SourceReadError was raised. -/
def State.faultFlag (s : State) : Bool := s.est == .fault

/-- R33: the computation is under way. -/
def State.busy (s : State) : Bool :=
  s.est == .fetch || s.est == .save || s.est == .round || s.est == .chain

/-- R95: the `rst` input at this step. -/
def State.rst (s : State) : Bool := s.host.head? == some .rst

/-- R66, R84: a pull is made (and outstanding until SRC answers). -/
def State.srcReq (s : State) : Bool := s.est == .fetch && s.phase == .streaming

/-- R65, R200: the step of the core waits for SRC. -/
def State.waiting (s : State) : Bool := s.srcReq && s.src.head?.isNone

/-- R190, R200: the core itself has a step enabled. -/
def State.stepEnabled (s : State) : Bool := s.busy && !s.waiting

end Sys2Proof.Machine
end

