-- ==== Sys2Proof/Machine/Ops.lean ====
section
/-! DEFINITION. The named operations over the registers that the meanings share: delivering a byte,
writing the block buffer, taking the one fault of the core (R214), RESET (R240), reading the selectors
(R91 to R95), the operation a control point selects (R101). -/

namespace Sys2Proof.Machine

/-- The meaning of an operation with a `require` line: outside it the operation has none (R101, U5). -/
def whenSelected (require : Bool) (mnemonic : String) (out : Out) : Out :=
  if require then out else .refused (.notSelected mnemonic)

/-- R118: a PB operation answers a byte request. -/
def State.deliver (s : State) (a : Answer) : State := { s with answer := some a }

/-- R118: the BA operation has taken the answer; the wire does not outlive the step. -/
def State.clearAnswer (s : State) : State := { s with answer := none }

/-- R64: the oldest pending answer of SRC is consumed. -/
def State.popSrc (s : State) : State := { s with src := s.src.rest }

/-- R21: eight more bits are counted, modulo 2^64. -/
def State.countByte (s : State) : State := { s with bitcnt := s.bitcnt + 8 }

/-- R126, R127: the sub-counter moves to the next byte of the half, and after the fourth the phase to
`next`. -/
def State.advanceSub (s : State) (next : Phase) : State :=
  if s.sub = 3 then { s with phase := next, sub := 0 } else { s with sub := s.sub + 1 }

/-- R25: `M[w] <- v`. -/
def State.writeBlk (s : State) (w : BitVec 4) (v : Word) : State :=
  { s with M := s.M.set w.toNat v w.isLt }

/-- R24, R144: `pos <- pos + 1 mod 64`. -/
def State.advancePos (s : State) : State :=
  { s with
    wordpos := if s.bytepos = 3 then s.wordpos + 1 else s.wordpos
    bytepos := s.bytepos + 1 }

/-- R214: entry of the one fault. Nothing else changes; there is no handler and no vector. -/
def State.raiseSourceReadError (s : State) (e : SrcErr) : State :=
  { s with est := .fault, faultCode := .sourceReadError, errInfo := some e }

/-- R216, R240: RESET, the only way out of a fault. The state after it does not depend on the state
before it; the inputs of SRC and HOST are theirs and stay (R242; log entry 18). -/
def State.applyReset (s : State) : State :=
  { State.reset with src := s.src, host := s.host }

/-- One action of HOST has taken place (log entry 4). -/
def State.advanceHost (s : State) : State := { s with host := s.host.tail }

/-- R244 step 2: a source is connected. -/
def State.connect (s : State) (source : Source) : State := { s with src := source }

/-- R84: HOST acts so at the coming steps. -/
def State.drive (s : State) (acts : List HostAct) : State := { s with host := acts }

/-- R91: the `psel` selector of a byte request; none while SRC has not answered the pull. The bits not
looked at outside `Streaming` are 0. -/
def State.psel (s : State) : Option (BitVec 6) :=
  let a : BitVec 1 := BitVec.ofBool s.at448
  match s.phase with
  | .streaming => s.src.head?.map fun r => phaseCode s.phase ++ kindCode r ++ a
  | .paddingZeroes | .lengthLow | .lengthHigh | .exhausted => some (phaseCode s.phase ++ 0#2 ++ a)

/-- R101: the selector a step is decoded from: `rst` before everything (rule 1), HOST's reading of an
output (R83, R95), else `est` (rule 2). -/
def State.selector (s : State) : Selector :=
  match s.host.head? with
  | some .rst => ⟨.h, 1⟩
  | some .readDigest => ⟨.out, 0⟩
  | some .readHex => ⟨.out, 1⟩
  | some .idle | none => ⟨.en, (estCode s.est).setWidth 6⟩

/-- R101: the operation of the next step. -/
def State.current (s : State) : Instr :=
  match s.host.head? with
  | some .rst => .reset
  | some .readDigest => .outDigest
  | some .readHex => .outHex
  | some .idle | none =>
    match s.est with
    | .fetch => .enFetch
    | .save => .enSave
    | .round => .enRound
    | .chain => .enChain
    | .done => .enDone
    | .fault => .enFault

/-! ### Setting the control point, for `State.withFetchWord` (log entry 2) -/

/-- HOST does `a` at the next step. -/
def State.hostDoes (s : State) (a : HostAct) : State := { s with host := a :: s.host.tail }

/-- HOST leaves the next step to the core. -/
def State.hostIdle (s : State) : State :=
  match s.host.head? with
  | some .idle | none => s
  | some .rst | some .readDigest | some .readHex => s.hostDoes .idle

/-- A byte request in `Streaming` with no answer pending gets the byte 0. -/
def State.ensureAnswer (s : State) : State :=
  if s.phase = .streaming ∧ s.src.head?.isNone then { s with src := .answer (.byte 0) s.src } else s

/-- The state with `est`, and HOST idle. -/
def State.atEst (s : State) (e : Est) : State := { s.hostIdle with est := e }

/-- The state at a byte request in phase `p`, at the first byte of a word. -/
def State.atPhase (s : State) (p : Phase) : State :=
  { s.atEst .fetch with phase := p, bytepos := 0 }

/-- The state at `pos = w, k`. -/
def State.atPos (s : State) (w : BitVec 4) (k : BitVec 2) : State :=
  { s.atEst .fetch with wordpos := w, bytepos := k }.ensureAnswer

/-- The state at round `n`. -/
def State.atRound (s : State) (n : BitVec 6) : State := { s.atEst .round with i := n }

/-- The control point and inputs at which the very next step performs an operation: alone, or as the BA
and PB pair of one FETCH step (R101). -/
def State.select (s : State) : Instr → State
  | .pbStreamByte => { s.atPhase .streaming with src := .answer (.byte 0) s.src }
  | .pbStreamEos => { s.atPhase .streaming with src := .answer .eos s.src }
  | .pbStreamFail => { s.atPhase .streaming with src := .answer (.fail Config.srcErrSample) s.src }
  | .pbPadzZero => { s.atPhase .paddingZeroes with bitcnt := if s.at448 then 0 else s.bitcnt }
  | .pbPadzLen => { s.atPhase .paddingZeroes with bitcnt := 448 }
  | .pbLenlo => s.atPhase .lengthLow
  | .pbLenhi => s.atPhase .lengthHigh
  | .pbExh => s.atPhase .exhausted
  | .baB0 w => s.atPos w 0
  | .baB1 w => s.atPos w 1
  | .baB2 w => s.atPos w 2
  | .baB3 w => s.atPos w 3
  | .enFetch => (s.atEst .fetch).ensureAnswer
  | .enSave => s.atEst .save
  | .enRound => s.atEst .round
  | .enChain => s.atEst .chain
  | .enDone => s.atEst .done
  | .enFault => s.atEst .fault
  | .rndF n => s.atRound n
  | .rndG n => s.atRound n
  | .rndH n => s.atRound n
  | .rndI n => s.atRound n
  | .outDigest => s.hostDoes .readDigest
  | .outHex => s.hostDoes .readHex
  | .reset => s.hostDoes .rst

end Sys2Proof.Machine
end

