-- ==== Sys2Proof/Machine/Output.lean ====
section
/-! DEFINITION. The two output functions, always selected (R95, R197, R198), and RESET (R240). -/

namespace Sys2Proof.Machine

/-- OUT.DIGEST: HOST is given the 16 digest bytes; no register changes (R197). -/
def execOutDigest (s : State) : Out := .next { s with dgRead := some s.dg }

/-- OUT.HEX: HOST is given the 32 characters; no register changes (R198). -/
def execOutHex (s : State) : Out := .next { s with hexRead := some s.hex }

/-- RESET: a fresh instance, from any state (R240). -/
def execReset (s : State) : Out := whenSelected s.rst "RESET" (.next s.applyReset)

end Sys2Proof.Machine
end

