-- ==== Sys2Proof/Machine/ReaderOps.lean ====
section
/-! DEFINITION. The eight byte production operations of the Reader (40_reader_byte_ops.md). Each answers
one byte request through `answer` and touches Reader registers only (R119), but for PB.STREAM.FAIL, which
takes the fault. -/

namespace Sys2Proof.Machine

/-- R123, R65: a byte request in `Streaming` makes one pull. Not answered, it holds the state; answered
with the reserved code it has no meaning (R107). `k` is the operation's own case. -/
def onPull (s : State) (k : SrcAnswer → Out) : Out :=
  match s.src.head? with
  | none => .next s
  | some .reserved => .refused .reservedSrcKind
  | some (.byte b) => k (.byte b)
  | some .eos => k .eos
  | some (.fail e) => k (.fail e)

/-- PB.STREAM.BYTE: a real byte (R120). -/
def execPbStreamByte (s : State) : Out :=
  whenSelected (s.phase == .streaming) "PB.STREAM.BYTE" <| onPull s fun
    | .byte b => .next (s.popSrc.countByte.deliver (.byte b))
    | .eos | .fail _ | .reserved => .refused (.notSelected "PB.STREAM.BYTE")

/-- PB.STREAM.EOS: the source is exhausted; the terminator, which is counted (R121, C2). -/
def execPbStreamEos (s : State) : Out :=
  whenSelected (s.phase == .streaming) "PB.STREAM.EOS" <| onPull s fun
    | .eos =>
      .next ({ s.popSrc with
        origlen := s.bitcnt
        bitcnt := s.bitcnt + 8
        phase := .paddingZeroes }.deliver (.byte terminator))
    | .byte _ | .fail _ | .reserved => .refused (.notSelected "PB.STREAM.EOS")

/-- PB.STREAM.FAIL: hard read failure; takes the fault (R122, R214). -/
def execPbStreamFail (s : State) : Out :=
  whenSelected (s.phase == .streaming) "PB.STREAM.FAIL" <| onPull s fun
    | .fail e => .next ((s.popSrc.raiseSourceReadError e).deliver (.sourceReadError e))
    | .byte _ | .eos | .reserved => .refused (.notSelected "PB.STREAM.FAIL")

/-- PB.PADZ.ZERO: one zero byte of padding (R124). -/
def execPbPadzZero (s : State) : Out :=
  whenSelected (s.phase == .paddingZeroes && !s.at448) "PB.PADZ.ZERO" <|
    .next (s.countByte.deliver (.byte zeroByte))

/-- PB.PADZ.LEN: the 448-bit boundary; first byte of the length (R125). -/
def execPbPadzLen (s : State) : Out :=
  whenSelected (s.phase == .paddingZeroes && s.at448) "PB.PADZ.LEN" <|
    .next ({ s with phase := .lengthLow, sub := 1 }.deliver (.byte (lengthByteLow s.origlen 0)))

/-- PB.LENLO: next byte of the low half of the length (R126). -/
def execPbLenlo (s : State) : Out :=
  whenSelected (s.phase == .lengthLow) "PB.LENLO" <|
    .next ((s.advanceSub .lengthHigh).deliver (.byte (lengthByteLow s.origlen s.sub)))

/-- PB.LENHI: next byte of the high half of the length (R127). -/
def execPbLenhi (s : State) : Out :=
  whenSelected (s.phase == .lengthHigh) "PB.LENHI" <|
    .next ((s.advanceSub .exhausted).deliver (.byte (lengthByteHigh s.origlen s.sub)))

/-- PB.EXH: EndOfData; SRC is not pulled and no register changes (R128). -/
def execPbExh (s : State) : Out :=
  whenSelected (s.phase == .exhausted) "PB.EXH" <| .next (s.deliver .endOfData)

/-- R111 GETBYTE, R118: the one PB operation the control point and SRC's answer select (R91). The wire
starts empty; it is still empty after it when SRC has not answered. -/
def getByte (s : State) : Out :=
  let s := s.clearAnswer
  match s.phase with
  | .streaming =>
    match s.src.head? with
    | none => .next s
    | some (.byte _) => execPbStreamByte s
    | some .eos => execPbStreamEos s
    | some (.fail _) => execPbStreamFail s
    | some .reserved => .refused .reservedSrcKind
  | .paddingZeroes => if s.at448 then execPbPadzLen s else execPbPadzZero s
  | .lengthLow => execPbLenlo s
  | .lengthHigh => execPbLenhi s
  | .exhausted => execPbExh s

end Sys2Proof.Machine
end

