-- ==== Sys2Proof/Machine/Assembly.lean ====
section
/-! DEFINITION. The four operations that pack the Reader's bytes into the block buffer
(41_block_assembly.md). Each carries its byte request inside it: one indivisible step (R140, D30). -/

namespace Sys2Proof.Machine

/-- The control point that selects byte `k` of word `w` (R94, R140). -/
def State.assembling (s : State) (w : BitVec 4) (k : BitVec 2) : Bool :=
  s.est == .fetch && s.bytepos == k && s.wordpos == w

/-- R140: one byte request and what the BA operation makes of its answer. Not answered, the step has not
been taken (R65). On SourceReadError the BA operation writes nothing (R146). -/
def byteStep (s : State) (onByte : Byte → State → State) (onEnd : State → Out) : Out :=
  match getByte s with
  | .fault r => .fault r
  | .refused r => .refused r
  | .next t =>
    match t.answer with
    | none => .next s
    | some (.byte b) => .next (onByte b t.clearAnswer)
    | some .endOfData => onEnd t.clearAnswer
    | some (.sourceReadError _) => .next t.clearAnswer

/-- R142 to R144: the byte is ORed into lane `k` of word `w` and the position advances. -/
def State.orLane (s : State) (w : BitVec 4) (k : Nat) (b : Byte) : State :=
  (s.writeBlk w (s.readBlk w ||| intoLane b k)).advancePos

/-- R145: EndOfData inside a word has no meaning. -/
def endInsideWord (_ : State) : Out := .refused .endOfDataInsideWord

/-- BA.B0: first byte of word `w`; the whole word is written (R141, C7). EndOfData ends the run. -/
def execBaB0 (w : BitVec 4) (s : State) : Out :=
  whenSelected (s.assembling w 0) "BA.B0" <|
    byteStep s (fun b t => (t.writeBlk w (intoLane b 0)).advancePos)
      (fun t => .next { t with est := .done })

/-- BA.B1: second byte of word `w` (R142). -/
def execBaB1 (w : BitVec 4) (s : State) : Out :=
  whenSelected (s.assembling w 1) "BA.B1" <| byteStep s (fun b t => t.orLane w 1 b) endInsideWord

/-- BA.B2: third byte of word `w` (R143). -/
def execBaB2 (w : BitVec 4) (s : State) : Out :=
  whenSelected (s.assembling w 2) "BA.B2" <| byteStep s (fun b t => t.orLane w 2 b) endInsideWord

/-- BA.B3: fourth byte of word `w`; at `w = 15` the block is complete (R144). -/
def execBaB3 (w : BitVec 4) (s : State) : Out :=
  whenSelected (s.assembling w 3) "BA.B3" <|
    byteStep s
      (fun b t => if w = 15 then { t.orLane w 3 b with est := .save } else t.orLane w 3 b)
      endInsideWord

end Sys2Proof.Machine
end

