-- ==== Sys2Proof/Machine/Rounds.lean ====
section
/-! DEFINITION. The four round operations (42_round_ops.md). -/

namespace Sys2Proof.Machine

/-- R160: the step all rounds share, `f` the nonlinear function's value and `g` the word index. Every
right-hand side reads the state before the step (R11). -/
def roundStep (f : Word) (g : BitVec 4) (s : State) : State :=
  let fp := f + s.A + roundConstant s.i + s.readBlk g
  { s with
    A := s.D
    D := s.C
    C := s.B
    B := s.B + rotl32 fp (shiftAmount s.i).toNat
    i := if s.i = 63 then s.i else s.i + 1
    est := if s.i = 63 then .chain else s.est }

/-- The control point that selects round `n` of quarter `q` (R93, R193). -/
def State.inRound (s : State) (q : BitVec 2) (n : BitVec 6) : Bool :=
  s.est == .round && s.i == n && quarterOf s.i == q

/-- RND.F: a round of quarter 0 (R161). -/
def execRndF (n : BitVec 6) (s : State) : Out :=
  whenSelected (s.inRound 0 n) "RND.F" <|
    .next (roundStep (mixF s.B s.C s.D) (wordIndexF s.i) s)

/-- RND.G: a round of quarter 1 (R162). -/
def execRndG (n : BitVec 6) (s : State) : Out :=
  whenSelected (s.inRound 1 n) "RND.G" <|
    .next (roundStep (mixG s.B s.C s.D) (wordIndexG s.i) s)

/-- RND.H: a round of quarter 2 (R163). -/
def execRndH (n : BitVec 6) (s : State) : Out :=
  whenSelected (s.inRound 2 n) "RND.H" <|
    .next (roundStep (mixH s.B s.C s.D) (wordIndexH s.i) s)

/-- RND.I: a round of quarter 3 (R164). -/
def execRndI (n : BitVec 6) (s : State) : Out :=
  whenSelected (s.inRound 3 n) "RND.I" <|
    .next (roundStep (mixI s.B s.C s.D) (wordIndexI s.i) s)

end Sys2Proof.Machine
end

