-- ==== Sys2Proof/Machine/Sequencer.lean ====
section
/-! DEFINITION. The six operations of the Engine's sequencer (43_sequencer_and_output.md section 1). -/

namespace Sys2Proof.Machine

/-- EN.FETCH: the BA operation selected by `bytepos`, with its byte request (R191). -/
def execEnFetch (s : State) : Out :=
  whenSelected (s.est == .fetch) "EN.FETCH" <|
    if s.bytepos = 0 then execBaB0 s.wordpos s
    else if s.bytepos = 1 then execBaB1 s.wordpos s
    else if s.bytepos = 2 then execBaB2 s.wordpos s
    else execBaB3 s.wordpos s

/-- EN.SAVE: save the registers (R192). -/
def execEnSave (s : State) : Out :=
  whenSelected (s.est == .save) "EN.SAVE" <|
    .next { s with A0 := s.A, B0 := s.B, C0 := s.C, D0 := s.D, i := 0, est := .round }

/-- EN.ROUND: the RND operation selected by `i[5:4]` (R193). -/
def execEnRound (s : State) : Out :=
  whenSelected (s.est == .round) "EN.ROUND" <|
    if quarterOf s.i = 0 then execRndF s.i s
    else if quarterOf s.i = 1 then execRndG s.i s
    else if quarterOf s.i = 2 then execRndH s.i s
    else execRndI s.i s

/-- EN.CHAIN: add the saved values back (R194). -/
def execEnChain (s : State) : Out :=
  whenSelected (s.est == .chain) "EN.CHAIN" <|
    .next { s with
      A := s.A + s.A0, B := s.B + s.B0, C := s.C + s.C0, D := s.D + s.D0, est := .fetch }

/-- EN.DONE: final; hold the digest (R195). -/
def execEnDone (s : State) : Out := whenSelected (s.est == .done) "EN.DONE" (.next s)

/-- EN.FAULT: faulted; hold (R196). -/
def execEnFault (s : State) : Out := whenSelected (s.est == .fault) "EN.FAULT" (.next s)

end Sys2Proof.Machine
end

