-- ==== Sys2Proof/Machine/Dispatch.lean ====
section
/-! DEFINITION. One arm per operation, each one call of its meaning. -/

namespace Sys2Proof.Machine

def exec (i : Instr) (s : State) : Host.Outcome State Fault Refusal :=
  match i with
  | .pbStreamByte => Sys2Proof.Machine.execPbStreamByte s
  | .pbStreamEos => Sys2Proof.Machine.execPbStreamEos s
  | .pbStreamFail => Sys2Proof.Machine.execPbStreamFail s
  | .pbPadzZero => Sys2Proof.Machine.execPbPadzZero s
  | .pbPadzLen => Sys2Proof.Machine.execPbPadzLen s
  | .pbLenlo => Sys2Proof.Machine.execPbLenlo s
  | .pbLenhi => Sys2Proof.Machine.execPbLenhi s
  | .pbExh => Sys2Proof.Machine.execPbExh s
  | .baB0 w => Sys2Proof.Machine.execBaB0 w s
  | .baB1 w => Sys2Proof.Machine.execBaB1 w s
  | .baB2 w => Sys2Proof.Machine.execBaB2 w s
  | .baB3 w => Sys2Proof.Machine.execBaB3 w s
  | .enFetch => Sys2Proof.Machine.execEnFetch s
  | .enSave => Sys2Proof.Machine.execEnSave s
  | .enRound => Sys2Proof.Machine.execEnRound s
  | .enChain => Sys2Proof.Machine.execEnChain s
  | .enDone => Sys2Proof.Machine.execEnDone s
  | .enFault => Sys2Proof.Machine.execEnFault s
  | .rndF n => Sys2Proof.Machine.execRndF n s
  | .rndG n => Sys2Proof.Machine.execRndG n s
  | .rndH n => Sys2Proof.Machine.execRndH n s
  | .rndI n => Sys2Proof.Machine.execRndI n s
  | .outDigest => Sys2Proof.Machine.execOutDigest s
  | .outHex => Sys2Proof.Machine.execOutHex s
  | .reset => Sys2Proof.Machine.execReset s

end Sys2Proof.Machine
end

