-- ==== Sys2Proof/Machine/Step.lean ====
section
/-! DEFINITION. One step of the machine (R101, R190), and where the step reads its operation from. -/

namespace Sys2Proof.Machine

/-- R101: perform the operation the control point selects; HOST's action of this step is then past. -/
def step (s : State) : Host.Outcome State Fault Refusal :=
  match exec s.current s with
  | .next t => .next t.advanceHost
  | .fault r => .fault r
  | .refused r => .refused r

/-- The state whose very next step performs the operation that this number names (log entries 1, 2). -/
def State.withFetchWord (s : State) (nbits w : Nat) : State :=
  match decodeTableWord nbits w with
  | some i => s.select i
  | none => s

end Sys2Proof.Machine
end

