-- ==== Sys2Proof/Machine/Pseudo.lean ====
section
/-! DEFINITION. What the fixed sequences of steps compute: the pseudo-operations GETBLOCK, COMPRESS and
MD5 (R111) as functions of bytes and words, written from the rules on whole blocks and whole messages
(R42, R68, R130, R147, R171, R201) and not from the step function. Statements compare runs with them. -/

namespace Sys2Proof.Machine

/-- The four registers of the Running State (R26). -/
structure Regs where
  a : Word
  b : Word
  c : Word
  d : Word
  deriving DecidableEq, Repr

/-- The Running State of a machine state. -/
def State.regs (s : State) : Regs := ⟨s.A, s.B, s.C, s.D⟩

/-- R26: the Running State before the first block. -/
def Regs.init : Regs := ⟨initA, initB, initC, initD⟩

/-- The nonlinear function of round `i` (R161 to R164). -/
def mixAt (i : BitVec 6) (r : Regs) : Word :=
  if i < 16 then mixF r.b r.c r.d
  else if i < 32 then mixG r.b r.c r.d
  else if i < 48 then mixH r.b r.c r.d
  else mixI r.b r.c r.d

/-- The word index of round `i` (R99). -/
def wordIndexAt (i : BitVec 6) : BitVec 4 :=
  if i < 16 then wordIndexF i
  else if i < 32 then wordIndexG i
  else if i < 48 then wordIndexH i
  else wordIndexI i

/-- Round `i` on the four registers (R160). -/
def roundRegs (m : Vector Word 16) (i : BitVec 6) (r : Regs) : Regs :=
  let g := wordIndexAt i
  let fp := mixAt i r + r.a + roundConstant i + m[g.toNat]'(g.isLt)
  ⟨r.d, r.b + rotl32 fp (shiftAmount i).toNat, r.b, r.c⟩

/-- Rounds 0 to `n - 1` in index order (R172). -/
def roundsRegs (m : Vector Word 16) : Nat → Regs → Regs
  | 0, r => r
  | n + 1, r => roundRegs m (BitVec.ofNat 6 n) (roundsRegs m n r)

/-- R171 COMPRESS: 64 rounds, then the registers from before them are added back. -/
def compress (m : Vector Word 16) (r : Regs) : Regs :=
  let r' := roundsRegs m 64 r
  ⟨r.a + r'.a, r.b + r'.b, r.c + r'.c, r.d + r'.d⟩

/-- R68 item 1, R147: word `j` of a block of bytes. -/
def packWord (p : List Byte) (j : Nat) : Word :=
  intoLane (p.getD (4 * j) 0) 0 ||| intoLane (p.getD (4 * j + 1) 0) 1 |||
    intoLane (p.getD (4 * j + 2) 0) 2 ||| intoLane (p.getD (4 * j + 3) 0) 3

/-- R147: the Message Block made of 64 bytes. -/
def packBlock (p : List Byte) : Vector Word 16 := Vector.ofFn fun j => packWord p j.val

/-- R42: `Z(L) = (55 - L) mod 64`. -/
def zeroCount (len : Nat) : Nat := (119 - len % 64) % 64

/-- R42: `NB(L) = floor((L + 8) / 64) + 1`. -/
def blockCount (len : Nat) : Nat := (len + 8) / 64 + 1

/-- R68 item 2: the length field, least significant byte first. -/
def lengthField (len : Count) : List Byte :=
  [len.extractLsb' 0 8, len.extractLsb' 8 8, len.extractLsb' 16 8, len.extractLsb' 24 8,
   len.extractLsb' 32 8, len.extractLsb' 40 8, len.extractLsb' 48 8, len.extractLsb' 56 8]

/-- R130: the padded stream of a message, `len = 8L mod 2^64`. -/
def paddedStream (msg : List Byte) : List Byte :=
  msg ++ terminator :: List.replicate (zeroCount msg.length) zeroByte ++
    lengthField (BitVec.ofNat 64 (8 * msg.length))

/-- R201: `n` successive 64-byte pieces of a stream, folded through COMPRESS in order. -/
def foldBlocks : Nat → List Byte → Regs → Regs
  | 0, _, r => r
  | n + 1, p, r => foldBlocks n (p.drop 64) (compress (packBlock (p.take 64)) r)

/-- R201: the final registers of a run on a message. -/
def md5Regs (msg : List Byte) : Regs :=
  foldBlocks (blockCount msg.length) (paddedStream msg) Regs.init

/-- R99, R120 to R128: the byte the Reader produces for the next byte request, where it produces one.
A function of the state alone, to state the BA operations with. -/
def State.nextByte (s : State) : Option Byte :=
  match s.phase with
  | .streaming =>
    match s.src.head? with
    | some (.byte b) => some b
    | some .eos => some terminator
    | some (.fail _) | some .reserved | none => none
  | .paddingZeroes => some (if s.at448 then s.origlen.extractLsb' 0 8 else zeroByte)
  | .lengthLow => some (lengthByteLow s.origlen s.sub)
  | .lengthHigh => some (lengthByteHigh s.origlen s.sub)
  | .exhausted => none

/-! ### The 64 steps as R165 prints them: `g`, `S[i]`, `K[i]` for each `i` in order -/

/-- One row of R165. -/
structure StepRow where
  g : BitVec 4
  s : BitVec 5
  k : Word
  deriving DecidableEq, Repr

/-- R165, rounds 0 to 15. -/
def stepTable0 : List StepRow :=
  [⟨0, 7, 0xD76AA478⟩, ⟨1, 12, 0xE8C7B756⟩, ⟨2, 17, 0x242070DB⟩, ⟨3, 22, 0xC1BDCEEE⟩,
   ⟨4, 7, 0xF57C0FAF⟩, ⟨5, 12, 0x4787C62A⟩, ⟨6, 17, 0xA8304613⟩, ⟨7, 22, 0xFD469501⟩,
   ⟨8, 7, 0x698098D8⟩, ⟨9, 12, 0x8B44F7AF⟩, ⟨10, 17, 0xFFFF5BB1⟩, ⟨11, 22, 0x895CD7BE⟩,
   ⟨12, 7, 0x6B901122⟩, ⟨13, 12, 0xFD987193⟩, ⟨14, 17, 0xA679438E⟩, ⟨15, 22, 0x49B40821⟩]

/-- R165, rounds 16 to 31. -/
def stepTable1 : List StepRow :=
  [⟨1, 5, 0xF61E2562⟩, ⟨6, 9, 0xC040B340⟩, ⟨11, 14, 0x265E5A51⟩, ⟨0, 20, 0xE9B6C7AA⟩,
   ⟨5, 5, 0xD62F105D⟩, ⟨10, 9, 0x02441453⟩, ⟨15, 14, 0xD8A1E681⟩, ⟨4, 20, 0xE7D3FBC8⟩,
   ⟨9, 5, 0x21E1CDE6⟩, ⟨14, 9, 0xC33707D6⟩, ⟨3, 14, 0xF4D50D87⟩, ⟨8, 20, 0x455A14ED⟩,
   ⟨13, 5, 0xA9E3E905⟩, ⟨2, 9, 0xFCEFA3F8⟩, ⟨7, 14, 0x676F02D9⟩, ⟨12, 20, 0x8D2A4C8A⟩]

/-- R165, rounds 32 to 47. -/
def stepTable2 : List StepRow :=
  [⟨5, 4, 0xFFFA3942⟩, ⟨8, 11, 0x8771F681⟩, ⟨11, 16, 0x6D9D6122⟩, ⟨14, 23, 0xFDE5380C⟩,
   ⟨1, 4, 0xA4BEEA44⟩, ⟨4, 11, 0x4BDECFA9⟩, ⟨7, 16, 0xF6BB4B60⟩, ⟨10, 23, 0xBEBFBC70⟩,
   ⟨13, 4, 0x289B7EC6⟩, ⟨0, 11, 0xEAA127FA⟩, ⟨3, 16, 0xD4EF3085⟩, ⟨6, 23, 0x04881D05⟩,
   ⟨9, 4, 0xD9D4D039⟩, ⟨12, 11, 0xE6DB99E5⟩, ⟨15, 16, 0x1FA27CF8⟩, ⟨2, 23, 0xC4AC5665⟩]

/-- R165, rounds 48 to 63. -/
def stepTable3 : List StepRow :=
  [⟨0, 6, 0xF4292244⟩, ⟨7, 10, 0x432AFF97⟩, ⟨14, 15, 0xAB9423A7⟩, ⟨5, 21, 0xFC93A039⟩,
   ⟨12, 6, 0x655B59C3⟩, ⟨3, 10, 0x8F0CCC92⟩, ⟨10, 15, 0xFFEFF47D⟩, ⟨1, 21, 0x85845DD1⟩,
   ⟨8, 6, 0x6FA87E4F⟩, ⟨15, 10, 0xFE2CE6E0⟩, ⟨6, 15, 0xA3014314⟩, ⟨13, 21, 0x4E0811A1⟩,
   ⟨4, 6, 0xF7537E82⟩, ⟨11, 10, 0xBD3AF235⟩, ⟨2, 15, 0x2AD7D2BB⟩, ⟨9, 21, 0xEB86D391⟩]

/-- R165. -/
def stepTable : List StepRow := stepTable0 ++ stepTable1 ++ stepTable2 ++ stepTable3

end Sys2Proof.Machine
end

