-- ==== Sys2Proof/Safety.lean ====
section
/-! DEFINITION. The terms claims are stated in: the end of a run (R200), the invariant of every reachable
state (R38 to R46, R102), what a run has taken from its source (R41), and which parts of the state have
been written since they last lost their value (R44). -/

namespace Sys2Proof.Machine

/-- R200 case 1: the run is final; the digest is valid. -/
def State.final (s : State) : Bool := s.est == .done

/-- R200 case 2: the run is over and has failed. -/
def State.failed (s : State) : Bool := s.est == .fault

/-- HOST neither resets the core nor reads an output at this step. -/
def State.undisturbed (s : State) : Bool := s.host.head? == none || s.host.head? == some .idle

/-- R38, R40, R43, R46: how the Reader's registers hang together with the position in the block. -/
def State.readerInv (s : State) : Prop :=
  match s.phase with
  | .streaming => s.sub = 0 ∧ s.origlen = 0 ∧ s.pos = s.bitcnt.extractLsb' 3 6
  | .paddingZeroes => s.sub = 0 ∧ s.pos = s.bitcnt.extractLsb' 3 6
  | .lengthLow => s.at448 = true ∧ s.sub ≠ 0 ∧ s.wordpos = 14 ∧ s.bytepos = s.sub
  | .lengthHigh => s.at448 = true ∧ s.wordpos = 15 ∧ s.bytepos = s.sub
  | .exhausted => s.at448 = true ∧ s.sub = 0 ∧ s.pos = 0

/-- R44, R46, R214: what holds in each state of the sequencer. -/
def State.engineInv (s : State) : Prop :=
  match s.est with
  | .fetch => True
  | .save | .round => s.pos = 0
  | .chain => s.pos = 0 ∧ s.i = 63
  | .done => s.phase = .exhausted
  | .fault => s.phase = .streaming

/-- R30, R214: the fault registers are written by the fault entry and by nothing else. -/
def State.faultInv (s : State) : Prop :=
  if s.est = .fault then s.faultCode = .sourceReadError ∧ s.errInfo.isSome = true
  else s.faultCode = .none ∧ s.errInfo = none

/-- The invariant of every reachable state. -/
def State.Inv (s : State) : Prop :=
  s.bitcnt.extractLsb' 0 3 = 0 ∧ s.origlen.extractLsb' 0 3 = 0 ∧ s.answer = none ∧
    s.readerInv ∧ s.engineInv ∧ s.faultInv

/-- R62, R64: the source `r` answers the coming pulls with these answers in order, and is `r'` then. -/
def Source.gives : Source → List SrcAnswer → Source → Prop
  | r, [], r' => r = r'
  | r, a :: answers, r' => r.head? = some a ∧ r.rest.gives answers r'

/-- R39, R41: `all` is the source of this run. While `Streaming`, the answers taken from it are bytes,
counted in `bitcnt` (and the failure that ended the run, in `FAULT`); afterwards they are bytes and one
`EOS`, and `origlen` is 8 times their number. -/
def State.consumedFrom (all : Source) (s : State) : Prop :=
  ∃ bytes : List Byte,
    if s.phase = .streaming then
      s.bitcnt = BitVec.ofNat 64 (8 * bytes.length) ∧
        if s.est = .fault then ∃ e, all.gives (bytes.map .byte ++ [.fail e]) s.src
        else all.gives (bytes.map .byte) s.src
    else
      s.origlen = BitVec.ofNat 64 (8 * bytes.length) ∧
        all.gives (bytes.map .byte ++ [.eos]) s.src

/-- R101: the operation a selector names, as a list. -/
def selected (f : Format) (b : BitVec 6) : List Instr :=
  match decodeSelector ⟨f, b⟩ with
  | .ok i => [i]
  | .error _ => []

/-- R101 rule 4: the PB operation of a byte request; none while SRC has not answered. -/
def State.byteRequest (s : State) : List Instr :=
  match s.psel with
  | some p => selected .pb p
  | none => []

/-- R101: an operation and those it carries out inside it: EN.FETCH the BA operation of `pos`, a BA
operation the PB operation of `psel`, EN.ROUND the RND operation of `i`. -/
def State.performs (s : State) (i : Instr) : List Instr :=
  match i with
  | .enFetch => .enFetch :: selected .ba s.pos ++ s.byteRequest
  | .enRound => .enRound :: selected .rnd s.i
  | .baB0 _ | .baB1 _ | .baB2 _ | .baB3 _ => i :: s.byteRequest
  | .pbStreamByte | .pbStreamEos | .pbStreamFail | .pbPadzZero | .pbPadzLen | .pbLenlo | .pbLenhi
  | .pbExh | .enSave | .enChain | .enDone | .enFault | .rndF _ | .rndG _ | .rndH _ | .rndI _
  | .outDigest | .outHex | .reset => [i]

/-- R44: word `j` of the block buffer has been written since the block under assembly began. -/
def State.wordWritten (s : State) (j : BitVec 4) : Bool :=
  match s.est with
  | .fetch => j < s.wordpos || (j == s.wordpos && s.bytepos != 0)
  | .save | .round => true
  | .chain | .done | .fault => false

/-- R44: the saved registers have been written for the block in work. -/
def State.savedWritten (s : State) : Bool := s.est == .round || s.est == .chain

/-- R44, U8: two states that agree but for words of `M` not yet written for this block and for `A0` to
`D0` outside the rounds. -/
def State.agreeWhereWritten (s t : State) : Prop :=
  t = { s with M := t.M, A0 := t.A0, B0 := t.B0, C0 := t.C0, D0 := t.D0 } ∧
    (∀ j, s.wordWritten j = true → t.readBlk j = s.readBlk j) ∧
    (s.savedWritten = true → t.A0 = s.A0 ∧ t.B0 = s.B0 ∧ t.C0 = s.C0 ∧ t.D0 = s.D0)

/-- R111, R130: `n` byte requests one after the other, each answered with a byte. -/
def getBytes : Nat → State → Option (List Byte × State)
  | 0, s => some ([], s)
  | n + 1, s =>
    match getByte s with
    | .next t =>
      match t.answer with
      | some (.byte b) => (getBytes n t).map fun r => (b :: r.1, r.2)
      | some .endOfData | some (.sourceReadError _) | none => none
    | .fault _ | .refused _ => none

end Sys2Proof.Machine
end

