-- ==== Sys2Proof/Certificates/Slice0/Obligations.lean ====
section
/-! DEFINITION. The statements about the machine, each from numbered rules of spec/; none is proved here. -/

open Sys2Proof Sys2Proof.Machine

/-! ### Decoding and encoding -/

/-- Words written out from the operation map R100, one or more for each format. -/
def Obligations.MapWordsDecode : Prop :=
  decodeSelector ⟨.pb, 0b000010⟩ = .ok .pbStreamEos ∧
  decodeSelector ⟨.pb, 0b001110⟩ = .ok .pbPadzZero ∧
  decodeSelector ⟨.pb, 0b001001⟩ = .ok .pbPadzLen ∧
  decodeSelector ⟨.ba, 0b010110⟩ = .ok (.baB2 5) ∧
  decodeSelector ⟨.ba, 0b111111⟩ = .ok (.baB3 15) ∧
  decodeSelector ⟨.en, 0b011⟩ = .ok .enChain ∧
  decodeSelector ⟨.rnd, 0b010100⟩ = .ok (.rndG 20) ∧
  decodeSelector ⟨.h, 0b1⟩ = .ok .reset ∧
  decodeBytes [0b101111, 4] = .ok (.rndH 47, [])

/-- R107: the reserved codes are no operation, each refused under its own name, whatever the bits that
are not looked at. -/
def Obligations.ReservedCodesAreRefused : Prop :=
  (∀ (p : BitVec 3) (x : BitVec 3), 5 ≤ p →
    decodeSelector ⟨.pb, p ++ x⟩ = .error .reservedPhase) ∧
  (∀ x : BitVec 1, decodeSelector ⟨.pb, 0b000#3 ++ 0b11#2 ++ x⟩ = .error .reservedSrcKind) ∧
  (∀ e : BitVec 3, 6 ≤ e → decodeSelector ⟨.en, 0#3 ++ e⟩ = .error .reservedEst) ∧
  (∀ s : State, s.phase = .streaming → s.src.head? = some .reserved →
    getByte s = .refused .reservedSrcKind)

/-- Decoding the byte form of a well-formed operation gives it back, with whatever follows it, and
decoding its selector does too. -/
def Obligations.DecodeInvertsEncode : Prop :=
  ∀ (i : Instr), i.wellFormed = true →
    decodeSelector (selectorOf i) = .ok i ∧
    ∀ rest, decodeBytes (encode i ++ rest) = .ok (i, rest)

/-- What the decoder accepts is well formed and is what R100's row says: a selector of a format with a
selector decodes to `i` exactly if the one row whose pattern it meets is the row of `i`. -/
def Obligations.DecodeFollowsTheMap : Prop :=
  ∀ (f : Format) (b : BitVec 6), f ≠ .out →
    (f = .en → b < 8) → (f = .h → b < 2) → ¬(f = .pb ∧ 40 ≤ b) →
    (∀ i, decodeSelector ⟨f, b⟩ = .ok i → i.wellFormed = true ∧ (selectorOf i).format = f) ∧
    (rowOf ⟨f, b⟩).map OpRow.mnemonic =
      match decodeSelector ⟨f, b⟩ with
      | .ok i => some (mnemonicOf i)
      | .error _ => none

/-! ### The step -/

/-- R101: the selector the step looks at always decodes, and the step performs the decoded operation;
around it the step does one thing, it lets HOST's action of this step pass (log entry 4). -/
def Obligations.StepRunsDecodedOperation : Prop :=
  (∀ s : State, ∃ i, decodeSelector s.selector = .ok i ∧ i.wellFormed = true) ∧
  ∀ (s : State) (i : Instr), decodeSelector s.selector = .ok i →
    step s = match exec i s with
      | .next t => .next { t with host := t.host.tail }
      | .fault r => .fault r
      | .refused r => .refused r

/-- R191: EN.FETCH is the BA operation decoded from `pos`. -/
def Obligations.FetchRunsDecodedAssembly : Prop :=
  decodeSelector ⟨.en, 0b000⟩ = .ok .enFetch ∧
  ∀ (s : State) (i : Instr), s.est = .fetch → decodeSelector ⟨.ba, s.pos⟩ = .ok i →
    exec .enFetch s = exec i s

/-- R193: EN.ROUND is the RND operation decoded from `i`. -/
def Obligations.RoundRunsDecodedRound : Prop :=
  decodeSelector ⟨.en, 0b010⟩ = .ok .enRound ∧
  ∀ (s : State) (i : Instr), s.est = .round → decodeSelector ⟨.rnd, s.i⟩ = .ok i →
    exec .enRound s = exec i s

/-- R101 rule 4, R118, R123: a byte request performs the PB operation decoded from `psel`; there is no
`psel` exactly while a pull in `Streaming` is not answered, and then nothing but the wire (log entry 10)
changes. -/
def Obligations.ByteRequestRunsDecodedOperation : Prop :=
  (∀ (s : State) (p : BitVec 6) (i : Instr), s.psel = some p → decodeSelector ⟨.pb, p⟩ = .ok i →
    getByte s = exec i { s with answer := none }) ∧
  ∀ s : State,
    (s.psel = none ↔ s.phase = .streaming ∧ s.src.head? = none) ∧
    (s.psel = none → getByte s = .next { s with answer := none })

/-- R65, R227 (the form of the wait is log entry 5): while a pull is not answered the core holds its
state, and RESET ends the wait. -/
def Obligations.UnansweredPullHoldsTheCore : Prop :=
  ∀ s : State, s.est = .fetch → s.phase = .streaming → s.src.head? = none →
    (s.undisturbed = true → step s = .next { s with host := s.host.tail }) ∧
    (s.host.head? = some .rst →
      step s = .next { State.reset with host := s.host.tail })

/-! ### Reader byte production -/

/-- R120. -/
def Obligations.StreamByteCountsAndDelivers : Prop :=
  (∀ x : BitVec 1, decodeSelector ⟨.pb, 0b000#3 ++ 0b00#2 ++ x⟩ = .ok .pbStreamByte) ∧
  ∀ (s : State) (b : Byte), s.phase = .streaming → s.src.head? = some (.byte b) →
    exec .pbStreamByte s =
      .next { s with src := s.src.rest, bitcnt := s.bitcnt + 8, answer := some (.byte b) }

/-- R121: the old count is frozen, the terminator is counted. -/
def Obligations.StreamEosFreezesLength : Prop :=
  (∀ x : BitVec 1, decodeSelector ⟨.pb, 0b000#3 ++ 0b01#2 ++ x⟩ = .ok .pbStreamEos) ∧
  ∀ s : State, s.phase = .streaming → s.src.head? = some .eos →
    exec .pbStreamEos s = .next { s with
      src := s.src.rest, origlen := s.bitcnt, bitcnt := s.bitcnt + 8, phase := .paddingZeroes,
      answer := some (.byte 0x80) }

/-- R122, R214: the fault entry, and nothing else. -/
def Obligations.StreamFailTakesTheFault : Prop :=
  (∀ x : BitVec 1, decodeSelector ⟨.pb, 0b000#3 ++ 0b10#2 ++ x⟩ = .ok .pbStreamFail) ∧
  ∀ (s : State) (e : SrcErr), s.phase = .streaming → s.src.head? = some (.fail e) →
    exec .pbStreamFail s = .next { s with
      src := s.src.rest, est := .fault, faultCode := .sourceReadError, errInfo := some e,
      answer := some (.sourceReadError e) }

/-- R124. -/
def Obligations.PaddingZeroCounts : Prop :=
  (∀ x : BitVec 2, decodeSelector ⟨.pb, 0b001#3 ++ x ++ 0b0#1⟩ = .ok .pbPadzZero) ∧
  ∀ s : State, s.phase = .paddingZeroes → s.bitcnt.toNat % 512 ≠ 448 →
    exec .pbPadzZero s =
      .next { s with bitcnt := s.bitcnt + 8, answer := some (.byte 0x00) }

/-- R125. -/
def Obligations.PaddingReachesTheLength : Prop :=
  (∀ x : BitVec 2, decodeSelector ⟨.pb, 0b001#3 ++ x ++ 0b1#1⟩ = .ok .pbPadzLen) ∧
  ∀ s : State, s.phase = .paddingZeroes → s.bitcnt.toNat % 512 = 448 →
    exec .pbPadzLen s = .next { s with
      phase := .lengthLow, sub := 1, answer := some (.byte (s.origlen.extractLsb' 0 8)) }

/-- R126: every value of `sub`, the unreachable 0 among them, as the pseudocode has it. -/
def Obligations.LengthLowEmitsNextByte : Prop :=
  (∀ x : BitVec 3, decodeSelector ⟨.pb, 0b010#3 ++ x⟩ = .ok .pbLenlo) ∧
  ∀ s : State, s.phase = .lengthLow →
    exec .pbLenlo s = .next { s with
      phase := if s.sub = 3 then .lengthHigh else .lengthLow
      sub := if s.sub = 3 then 0 else s.sub + 1
      answer := some (.byte (s.origlen.extractLsb' (8 * s.sub.toNat) 8)) }

/-- R127. -/
def Obligations.LengthHighEmitsNextByte : Prop :=
  (∀ x : BitVec 3, decodeSelector ⟨.pb, 0b011#3 ++ x⟩ = .ok .pbLenhi) ∧
  ∀ s : State, s.phase = .lengthHigh →
    exec .pbLenhi s = .next { s with
      phase := if s.sub = 3 then .exhausted else .lengthHigh
      sub := if s.sub = 3 then 0 else s.sub + 1
      answer := some (.byte (s.origlen.extractLsb' (32 + 8 * s.sub.toNat) 8)) }

/-- R128: EndOfData, SRC not pulled, no register changed, however often it is asked. -/
def Obligations.ExhaustedSignalsEndOfData : Prop :=
  (∀ x : BitVec 3, decodeSelector ⟨.pb, 0b100#3 ++ x⟩ = .ok .pbExh) ∧
  ∀ s : State, s.phase = .exhausted →
    exec .pbExh s = .next { s with answer := some .endOfData }

/-- R119: a PB operation changes no Engine register, no block byte and no position; only PB.STREAM.FAIL
changes `est` and the fault registers. -/
def Obligations.ReaderOpsLeaveTheEngine : Prop :=
  ∀ (i : Instr) (s t : State), (selectorOf i).format = .pb → exec i s = .next t →
    t.A = s.A ∧ t.B = s.B ∧ t.C = s.C ∧ t.D = s.D ∧
    t.A0 = s.A0 ∧ t.B0 = s.B0 ∧ t.C0 = s.C0 ∧ t.D0 = s.D0 ∧ t.i = s.i ∧
    (∀ a, t.blkByte a = s.blkByte a) ∧ t.wordpos = s.wordpos ∧ t.bytepos = s.bytepos ∧
    t.host = s.host ∧ t.dgRead = s.dgRead ∧ t.hexRead = s.hexRead ∧
    (i ≠ .pbStreamFail →
      t.est = s.est ∧ t.faultCode = s.faultCode ∧ t.errInfo = s.errInfo)

/-! ### Block assembly -/

/-- R141: the three answers of the byte request at the first byte of a word. -/
def Obligations.FirstByteReplacesTheWord : Prop :=
  (∀ w : BitVec 4, decodeSelector ⟨.ba, w ++ 0b00#2⟩ = .ok (.baB0 w)) ∧
  ∀ (s t : State) (w : BitVec 4), s.est = .fetch → s.wordpos = w → s.bytepos = 0 →
    getByte s = .next t →
    (∀ b, t.answer = some (.byte b) → exec (.baB0 w) s = .next { t with
      M := t.M.set w.toNat (b.setWidth 32) w.isLt, bytepos := 1, answer := none }) ∧
    (t.answer = some .endOfData →
      exec (.baB0 w) s = .next { t with est := .done, answer := none }) ∧
    (∀ e, t.answer = some (.sourceReadError e) →
      exec (.baB0 w) s = .next { t with answer := none })

/-- R142, R143: the second and the third byte are ORed into their lane. -/
def Obligations.MiddleBytesAreOredIn : Prop :=
  (∀ w : BitVec 4, decodeSelector ⟨.ba, w ++ 0b01#2⟩ = .ok (.baB1 w) ∧
    decodeSelector ⟨.ba, w ++ 0b10#2⟩ = .ok (.baB2 w)) ∧
  (∀ (s t : State) (w : BitVec 4), s.est = .fetch → s.wordpos = w → s.bytepos = 1 →
    getByte s = .next t →
    (∀ b, t.answer = some (.byte b) → exec (.baB1 w) s = .next { t with
      M := t.M.set w.toNat (s.readBlk w ||| b.setWidth 32 <<< 8) w.isLt
      bytepos := 2, answer := none }) ∧
    (t.answer = some .endOfData → exec (.baB1 w) s = .refused .endOfDataInsideWord) ∧
    (∀ e, t.answer = some (.sourceReadError e) →
      exec (.baB1 w) s = .next { t with answer := none })) ∧
  (∀ (s t : State) (w : BitVec 4), s.est = .fetch → s.wordpos = w → s.bytepos = 2 →
    getByte s = .next t →
    (∀ b, t.answer = some (.byte b) → exec (.baB2 w) s = .next { t with
      M := t.M.set w.toNat (s.readBlk w ||| b.setWidth 32 <<< 16) w.isLt
      bytepos := 3, answer := none }) ∧
    (t.answer = some .endOfData → exec (.baB2 w) s = .refused .endOfDataInsideWord) ∧
    (∀ e, t.answer = some (.sourceReadError e) →
      exec (.baB2 w) s = .next { t with answer := none }))

/-- R144: the fourth byte completes the word, and the block at word 15. -/
def Obligations.FourthByteCompletesTheWord : Prop :=
  (∀ w : BitVec 4, decodeSelector ⟨.ba, w ++ 0b11#2⟩ = .ok (.baB3 w)) ∧
  ∀ (s t : State) (w : BitVec 4), s.est = .fetch → s.wordpos = w → s.bytepos = 3 →
    getByte s = .next t →
    (∀ b, t.answer = some (.byte b) → exec (.baB3 w) s = .next { t with
      M := t.M.set w.toNat (s.readBlk w ||| b.setWidth 32 <<< 24) w.isLt
      wordpos := w + 1, bytepos := 0
      est := if w = 15 then .save else .fetch, answer := none }) ∧
    (t.answer = some .endOfData → exec (.baB3 w) s = .refused .endOfDataInsideWord) ∧
    (∀ e, t.answer = some (.sourceReadError e) →
      exec (.baB3 w) s = .next { t with answer := none })

/-- R140 to R144, R191: from every state in `FETCH` whose next byte the Reader can produce, each BA
operation at its position, and EN.FETCH, answers a next state with the byte in its lane, the position one
further and SRC one answer shorter if it was pulled. -/
def Obligations.AssemblyStepCompletes : Prop :=
  ∀ (s : State) (b : Byte), s.est = .fetch → s.nextByte = some b →
    ∃ t, exec .enFetch s = .next t ∧
      (s.bytepos = 0 → exec (.baB0 s.wordpos) s = .next t) ∧
      (s.bytepos = 1 → exec (.baB1 s.wordpos) s = .next t) ∧
      (s.bytepos = 2 → exec (.baB2 s.wordpos) s = .next t) ∧
      (s.bytepos = 3 → exec (.baB3 s.wordpos) s = .next t) ∧
      t.readBlk s.wordpos =
        (if s.bytepos = 0 then 0 else s.readBlk s.wordpos) |||
          (b.setWidth 32 <<< (8 * s.bytepos.toNat)) ∧
      t.pos = s.pos + 1 ∧
      t.est = (if s.pos = 63 then .save else .fetch) ∧
      t.src = (if s.phase = .streaming then s.src.rest else s.src) ∧
      t.answer = none ∧ t.regs = s.regs

/-- R25, R70, R149: which bytes of the block buffer a BA operation stores to. BA.B0 replaces the word it
fills, the others leave every byte but their own lane of that word; whatever the byte request answers. -/
def Obligations.AssemblyStoresOnlyItsLane : Prop :=
  ∀ (s t : State) (w : BitVec 4) (a : BitVec 6),
    (exec (.baB0 w) s = .next t → a.extractLsb' 2 4 ≠ w → t.blkByte a = s.blkByte a) ∧
    (exec (.baB1 w) s = .next t → a ≠ w ++ 1#2 → t.blkByte a = s.blkByte a) ∧
    (exec (.baB2 w) s = .next t → a ≠ w ++ 2#2 → t.blkByte a = s.blkByte a) ∧
    (exec (.baB3 w) s = .next t → a ≠ w ++ 3#2 → t.blkByte a = s.blkByte a)

/-- R145: EndOfData at the second, third or fourth byte of a word has no meaning. -/
def Obligations.EndOfDataInsideWordIsRefused : Prop :=
  ∀ s : State, s.est = .fetch → s.phase = .exhausted → s.bytepos ≠ 0 →
    exec .enFetch s = .refused .endOfDataInsideWord

/-- R141, R195, R213: EndOfData at the first byte of any word ends the run and changes nothing else. -/
def Obligations.EndOfDataEndsTheRun : Prop :=
  ∀ s : State, s.est = .fetch → s.phase = .exhausted → s.bytepos = 0 →
    exec .enFetch s = .next { s with est := .done, answer := none } ∧
    exec (.baB0 s.wordpos) s = .next { s with est := .done, answer := none }

/-- R146, R214: a read failure during assembly, at every position: the fault registers, `est` and the
source's answer, and nothing else. -/
def Obligations.ReadFailureIsPrecise : Prop :=
  ∀ (s : State) (e : SrcErr), s.est = .fetch → s.phase = .streaming →
    s.src.head? = some (.fail e) →
    exec .enFetch s = .next { s with
      est := .fault, faultCode := .sourceReadError, errInfo := some e, src := s.src.rest,
      answer := none }

/-! ### Rounds -/

/-- R160, R161. -/
def Obligations.RoundFComputes : Prop :=
  (∀ t : BitVec 4, decodeSelector ⟨.rnd, 0b00#2 ++ t⟩ = .ok (.rndF (0b00#2 ++ t))) ∧
  ∀ s : State, s.est = .round → s.i.toNat / 16 = 0 →
    exec (.rndF s.i) s = .next { s with
      A := s.D, D := s.C, C := s.B
      B := s.B + rotl32 (((s.B &&& s.C) ||| (~~~s.B &&& s.D)) + s.A + roundConstant s.i +
        s.readBlk (BitVec.ofNat 4 s.i.toNat)) (shiftAmount s.i).toNat
      i := s.i + 1 }

/-- R160, R162. -/
def Obligations.RoundGComputes : Prop :=
  (∀ t : BitVec 4, decodeSelector ⟨.rnd, 0b01#2 ++ t⟩ = .ok (.rndG (0b01#2 ++ t))) ∧
  ∀ s : State, s.est = .round → s.i.toNat / 16 = 1 →
    exec (.rndG s.i) s = .next { s with
      A := s.D, D := s.C, C := s.B
      B := s.B + rotl32 (((s.D &&& s.B) ||| (~~~s.D &&& s.C)) + s.A + roundConstant s.i +
        s.readBlk (BitVec.ofNat 4 ((5 * s.i.toNat + 1) % 16))) (shiftAmount s.i).toNat
      i := s.i + 1 }

/-- R160, R163. -/
def Obligations.RoundHComputes : Prop :=
  (∀ t : BitVec 4, decodeSelector ⟨.rnd, 0b10#2 ++ t⟩ = .ok (.rndH (0b10#2 ++ t))) ∧
  ∀ s : State, s.est = .round → s.i.toNat / 16 = 2 →
    exec (.rndH s.i) s = .next { s with
      A := s.D, D := s.C, C := s.B
      B := s.B + rotl32 ((s.B ^^^ s.C ^^^ s.D) + s.A + roundConstant s.i +
        s.readBlk (BitVec.ofNat 4 ((3 * s.i.toNat + 5) % 16))) (shiftAmount s.i).toNat
      i := s.i + 1 }

/-- R160, R164: the last quarter, and at `i = 63` the hand-over to `CHAIN`. -/
def Obligations.RoundIComputes : Prop :=
  (∀ t : BitVec 4, decodeSelector ⟨.rnd, 0b11#2 ++ t⟩ = .ok (.rndI (0b11#2 ++ t))) ∧
  ∀ s : State, s.est = .round → s.i.toNat / 16 = 3 →
    exec (.rndI s.i) s = .next { s with
      A := s.D, D := s.C, C := s.B
      B := s.B + rotl32 ((s.C ^^^ (s.B ||| ~~~s.D)) + s.A + roundConstant s.i +
        s.readBlk (BitVec.ofNat 4 ((7 * s.i.toNat) % 16))) (shiftAmount s.i).toNat
      i := if s.i = 63 then 63 else s.i + 1
      est := if s.i = 63 then .chain else .round }

/-- R165: `g`, `S[i]` and `K[i]` of all 64 rounds, as the rule prints them. The values of `K` are
general knowledge by the spec's own mark (log entry 15). -/
def Obligations.RoundOperandsAreTheTables : Prop :=
  ((List.range 64).map fun n =>
    (⟨wordIndexAt (BitVec.ofNat 6 n), shiftAmount (BitVec.ofNat 6 n),
      roundConstant (BitVec.ofNat 6 n)⟩ : StepRow)) = stepTable

/-- R168: in each quarter every message word is used by exactly one step. -/
def Obligations.EachWordOncePerQuarter : Prop :=
  ∀ (q : BitVec 2) (g : BitVec 4),
    ∃ t : BitVec 4, wordIndexAt (q ++ t) = g ∧ ∀ u : BitVec 4, wordIndexAt (q ++ u) = g → u = t

/-- R167: the four functions bit by bit: if B then C else D; if D then B else C; parity; C xor (B or
not D). -/
def Obligations.MixFunctionsBitByBit : Prop :=
  ∀ (b c d : Word) (k : Nat), k < 32 →
    (mixF b c d).getLsbD k = (if b.getLsbD k then c.getLsbD k else d.getLsbD k) ∧
    (mixG b c d).getLsbD k = (if d.getLsbD k then b.getLsbD k else c.getLsbD k) ∧
    (mixH b c d).getLsbD k = (b.getLsbD k != (c.getLsbD k != d.getLsbD k)) ∧
    (mixI b c d).getLsbD k = (c.getLsbD k != (b.getLsbD k || !d.getLsbD k))

/-- R10, R166: `rotl32` sends bit `k` to bit `(k + n) mod 32`. -/
def Obligations.RotateMovesBits : Prop :=
  ∀ (x : Word) (n k : Nat), n < 32 → k < 32 →
    (rotl32 x n).getLsbD ((k + n) % 32) = x.getLsbD k

/-! ### Sequencer -/

/-- R192. -/
def Obligations.SaveCopiesTheRegisters : Prop :=
  decodeSelector ⟨.en, 0b001⟩ = .ok .enSave ∧
  ∀ s : State, s.est = .save →
    exec .enSave s = .next { s with
      A0 := s.A, B0 := s.B, C0 := s.C, D0 := s.D, i := 0, est := .round }

/-- R194. That the words of `M` stay, where R25 gives them no value after EN.CHAIN, is log entry 16. -/
def Obligations.ChainAddsTheSavedValues : Prop :=
  decodeSelector ⟨.en, 0b011⟩ = .ok .enChain ∧
  ∀ s : State, s.est = .chain →
    exec .enChain s = .next { s with
      A := s.A + s.A0, B := s.B + s.B0, C := s.C + s.C0, D := s.D + s.D0, est := .fetch }

/-- R195, R196: in `DONE` and in `FAULT` no register changes. That the model takes a step that holds the
state, where the rules say "no step", is log entry 5. -/
def Obligations.DoneAndFaultHold : Prop :=
  decodeSelector ⟨.en, 0b100⟩ = .ok .enDone ∧ decodeSelector ⟨.en, 0b101⟩ = .ok .enFault ∧
  (∀ s : State, s.est = .done → exec .enDone s = .next s ∧
    s.digestValid = true ∧ s.busy = false ∧ s.faultFlag = false) ∧
  (∀ s : State, s.est = .fault → exec .enFault s = .next s ∧
    s.faultFlag = true ∧ s.busy = false ∧ s.digestValid = false)

/-- R193: every state in `ROUND` completes its round, and the round is the reference one on the four
registers. -/
def Obligations.RoundStepCompletes : Prop :=
  ∀ s : State, s.est = .round →
    ∃ t, exec .enRound s = .next t ∧ t.regs = roundRegs s.M s.i s.regs ∧
      t.i = (if s.i = 63 then 63 else s.i + 1) ∧
      t.est = (if s.i = 63 then .chain else .round) ∧
      t = { s with A := t.A, B := t.B, C := t.C, D := t.D, i := t.i, est := t.est }

/-- R216, R241, R246: nothing but RESET leaves `DONE` or `FAULT`; until then only HOST's own readings
change (log entries 4, 5 and 11). -/
def Obligations.OnlyResetLeavesDoneAndFault : Prop :=
  ∀ s : State, (s.est = .done ∨ s.est = .fault) → s.host.head? ≠ some .rst →
    ∃ t, step s = .next t ∧
      t = { s with host := s.host.tail, dgRead := t.dgRead, hexRead := t.hexRead }

/-- R129: the phase after every step of the machine. The model's choices in it: `rst` is HOST's action of
this step (log entry 4), a step without an operation holds the state (log entry 5), a reading by HOST
takes a step (log entry 21). -/
def Obligations.PhaseTransitions : Prop :=
  ∀ s t : State, step s = .next t →
    t.phase =
      if s.host.head? = some .rst then .streaming
      else if s.undisturbed = false ∨ s.est ≠ .fetch then s.phase
      else match s.phase with
        | .streaming => if s.src.head? = some .eos then .paddingZeroes else .streaming
        | .paddingZeroes => if s.bitcnt.toNat % 512 = 448 then .lengthLow else .paddingZeroes
        | .lengthLow => if s.sub = 3 then .lengthHigh else .lengthLow
        | .lengthHigh => if s.sub = 3 then .exhausted else .lengthHigh
        | .exhausted => .exhausted

/-- R199: the sequencer state after every step of the machine. The model's choices in it: `rst` is HOST's
action of this step (log entry 4), an unanswered pull holds `FETCH` and the steps in `DONE` and `FAULT`
hold the state (log entry 5), a reading by HOST takes a step (log entry 21). -/
def Obligations.SequencerTransitions : Prop :=
  ∀ s t : State, step s = .next t →
    t.est =
      if s.host.head? = some .rst then .fetch
      else if s.undisturbed = false then s.est
      else match s.est with
        | .fetch =>
          if s.phase = .exhausted then .done
          else if s.phase = .streaming ∧ s.src.head? = none then .fetch
          else if s.phase = .streaming ∧ s.src.head?.map kindCode = some 2 then .fault
          else if s.wordpos = 15 ∧ s.bytepos = 3 then .save
          else .fetch
        | .save => .round
        | .round => if s.i = 63 then .chain else .round
        | .chain => .fetch
        | .done => .done
        | .fault => .fault

/-- R63, R64, R66: a step pulls only in `FETCH` and `Streaming`, one answer at a time, and takes nothing
where SRC does not answer. The model's choices in it: RESET takes no answer (log entry 18), an unanswered
pull holds the state (log entry 5), HOST acts step by step (log entry 4), its readings taking a step
(log entry 21). -/
def Obligations.PullsOnlyWhileStreaming : Prop :=
  ∀ s t : State, step s = .next t →
    t.src = (if s.est = .fetch ∧ s.phase = .streaming ∧ s.undisturbed = true then s.src.rest
      else s.src) ∧
    (s.src.head? = none → t.src = s.src)

/-- R20 to R30, "Written by": a register changes only if one of its writers is performed, by itself or
inside the operation (`State.performs`). RESET, which writes them all, is set aside. That EN.CHAIN is no
writer of `M` is log entry 16. -/
def Obligations.RegistersHaveTheirWriters : Prop :=
  ∀ (i : Instr) (s t : State), exec i s = .next t → i ≠ .reset →
    (t.phase ≠ s.phase → ∃ w ∈ s.performs i,
      w = .pbStreamEos ∨ w = .pbPadzLen ∨ w = .pbLenlo ∨ w = .pbLenhi) ∧
    (t.bitcnt ≠ s.bitcnt → ∃ w ∈ s.performs i,
      w = .pbStreamByte ∨ w = .pbStreamEos ∨ w = .pbPadzZero) ∧
    (t.origlen ≠ s.origlen → .pbStreamEos ∈ s.performs i) ∧
    (t.sub ≠ s.sub → ∃ w ∈ s.performs i, w = .pbPadzLen ∨ w = .pbLenlo ∨ w = .pbLenhi) ∧
    (t.pos ≠ s.pos → ∃ w ∈ s.performs i, (selectorOf w).format = .ba) ∧
    (t.M ≠ s.M → ∃ w ∈ s.performs i, (selectorOf w).format = .ba) ∧
    (t.regs ≠ s.regs → ∃ w ∈ s.performs i, (selectorOf w).format = .rnd ∨ w = .enChain) ∧
    ((t.A0, t.B0, t.C0, t.D0) ≠ (s.A0, s.B0, s.C0, s.D0) → .enSave ∈ s.performs i) ∧
    (t.i ≠ s.i → ∃ w ∈ s.performs i, (selectorOf w).format = .rnd ∨ w = .enSave) ∧
    (t.est ≠ s.est → ∃ w ∈ s.performs i,
      (∃ n, w = .baB0 n) ∨ (∃ n, w = .baB3 n) ∨ w = .pbStreamFail ∨ w = .enSave ∨
        (∃ n, w = .rndI n ∧ s.i = 63) ∨ w = .enChain) ∧
    ((t.faultCode, t.errInfo) ≠ (s.faultCode, s.errInfo) → .pbStreamFail ∈ s.performs i) ∧
    (t.src ≠ s.src → ∃ w ∈ s.performs i,
      w = .pbStreamByte ∨ w = .pbStreamEos ∨ w = .pbStreamFail)

/-! ### Outputs, status, RESET -/

/-- R197: the 16 bytes, register by register, least significant first; no register changes. The field
that takes the reading is the model's (log entry 11). -/
def Obligations.DigestIsTheRegistersLittleEndian : Prop :=
  ∀ s : State, exec .outDigest s = .next { s with dgRead := some (
     [s.A.extractLsb' 0 8, s.A.extractLsb' 8 8, s.A.extractLsb' 16 8, s.A.extractLsb' 24 8,
     s.B.extractLsb' 0 8, s.B.extractLsb' 8 8, s.B.extractLsb' 16 8, s.B.extractLsb' 24 8,
     s.C.extractLsb' 0 8, s.C.extractLsb' 8 8, s.C.extractLsb' 16 8, s.C.extractLsb' 24 8,
     s.D.extractLsb' 0 8, s.D.extractLsb' 8 8, s.D.extractLsb' 16 8, s.D.extractLsb' 24 8]) }

/-- R98, R198: 32 characters, two for each digest byte, high nibble first, each a lowercase digit. The
field that takes the reading is the model's (log entry 11), the ASCII codes are R98's (log entry 17). -/
def Obligations.HexIsTwoDigitsPerByte : Prop :=
  (∀ v : BitVec 4, hexdigit v = if v ≤ 9 then Char.ofNat (0x30 + v.toNat)
    else Char.ofNat (0x61 + (v.toNat - 10))) ∧
  ∀ s : State, ∃ hex : List Char, exec .outHex s = .next { s with hexRead := some hex } ∧
    hex.length = 32 ∧
    ∀ (k : Nat) (b : Byte), s.dg[k]? = some b →
      hex[2 * k]? = some (hexdigit (b.extractLsb' 4 4)) ∧
      hex[2 * k + 1]? = some (hexdigit (b.extractLsb' 0 4))

/-- R83: between steps HOST's reading of an output gives the value the registers hold and changes
nothing of the core. That a reading takes a step of the model is log entry 21. -/
def Obligations.ReadingOutputsHasNoSideEffect : Prop :=
  ∀ s : State,
    (s.host.head? = some .readDigest →
      step s = .next { s with host := s.host.tail, dgRead := some s.dg }) ∧
    (s.host.head? = some .readHex →
      step s = .next { s with host := s.host.tail, hexRead := some s.hex })

/-- R33: the status is a function of `est`: busy, digest valid and fault exclude each other and one of
them holds, and a step of the core is enabled only while busy (R190, R200). -/
def Obligations.ExactlyOneStatusHolds : Prop :=
  ∀ s : State,
    (s.busy = true ↔ s.est = .fetch ∨ s.est = .save ∨ s.est = .round ∨ s.est = .chain) ∧
    (s.digestValid = true ↔ s.est = .done) ∧ (s.faultFlag = true ↔ s.est = .fault) ∧
    (s.eod = true ↔ s.phase = .exhausted) ∧
    (s.busy = !(s.digestValid || s.faultFlag)) ∧ (s.stepEnabled = true → s.busy = true)

/-- R240, R241: RESET in any state; every register the rule gives a value has it, and the state after it
depends only on the inputs of SRC and HOST. `M` and `A0` to `D0` have no value in the rule; nothing is
said of them but that they do not depend on the state before (log entries 7 and 8). -/
def Obligations.ResetMakesAFreshInstance : Prop :=
  decodeSelector ⟨.h, 1⟩ = .ok .reset ∧
  (∀ s : State, s.host.head? = some .rst → ∃ t, exec .reset s = .next t ∧
    t = { State.reset with src := s.src, host := s.host } ∧
    t.phase = .streaming ∧ t.bitcnt = 0 ∧ t.origlen = 0 ∧ t.sub = 0 ∧ t.wordpos = 0 ∧
    t.bytepos = 0 ∧ t.A = 0x67452301 ∧ t.B = 0xEFCDAB89 ∧ t.C = 0x98BADCFE ∧
    t.D = 0x10325476 ∧ t.i = 0 ∧ t.est = .fetch ∧ t.faultCode = .none ∧ t.errInfo = none ∧
    t.busy = true ∧ t.digestValid = false ∧ t.faultFlag = false ∧ t.eod = false ∧
    t.src = s.src ∧ t.host = s.host) ∧
  ∀ s s' : State, s.host.head? = some .rst → s.src = s'.src → s.host = s'.host →
    exec .reset s = exec .reset s'

/-! ### Invariants -/

/-- R37, R38, R43, R46: the state after RESET meets the invariant. -/
def Obligations.ResetStateMeetsInvariant : Prop := State.reset.Inv

/-- R38, R40, R43, R46, R102: every step keeps the invariant: the counters stay whole bytes and in step
with the position in the block, the length field fills words 14 and 15, EndOfData comes only at a block
boundary, the fault registers agree with `est`. -/
def Obligations.EveryStepKeepsInvariant : Prop :=
  ∀ s t : State, s.Inv → step s = .next t → t.Inv

/-- R46, R102, R107, R145: from a state that meets the invariant a step is refused only for the reserved
source answer. -/
def Obligations.InvariantStepsAreNeverRefused : Prop :=
  ∀ s : State, s.Inv → s.src.head? ≠ some .reserved → ∃ t, step s = .next t

/-- R102: which byte production each position can meet. -/
def Obligations.ReachableAssemblyPairs : Prop :=
  ∀ s : State, s.Inv → s.est = .fetch →
    (s.phase = .exhausted → s.pos = 0) ∧
    (s.phase = .paddingZeroes → s.at448 = true → s.pos = 56) ∧
    (s.phase = .lengthLow → s.wordpos = 14 ∧ s.bytepos ≠ 0) ∧
    (s.phase = .lengthHigh → s.wordpos = 15)

/-- R39, R41: while no RESET is applied, every step keeps the bit counter, and after exhaustion the
original length, at 8 times the number of bytes SRC has given (modulo 2^64). -/
def Obligations.CountersFollowTheSource : Prop :=
  ∀ (all : Source) (s t : State), s.host.head? ≠ some .rst →
    s.consumedFrom all → step s = .next t → t.consumedFrom all

/-- R44, U8: no result depends on a word of `M`, or on `A0` to `D0`, that has not been written: states
that agree but for those step to states that agree but for those. So the reset values of log entries 7
and 8 never show. -/
def Obligations.NothingReadsUnwrittenRegisters : Prop :=
  ∀ s s' t : State, s.Inv → s.agreeWhereWritten s' → step s = .next t →
    ∃ t', step s' = .next t' ∧ t.agreeWhereWritten t'

/-! ### Whole runs -/

/-- R42: the padded length is a whole number of blocks. -/
def Obligations.PaddedLengthIsWholeBlocks : Prop :=
  ∀ msg : List Byte,
    (paddedStream msg).length = msg.length + 1 + zeroCount msg.length + 8 ∧
    (paddedStream msg).length = 64 * blockCount msg.length ∧
    (zeroCount msg.length + msg.length) % 64 = 55

/-- R130: the byte requests of a Reader fresh from RESET are answered with the padded stream of the
message, `P(L) = L + 9 + Z(L)` bytes, a multiple of 64, and from then on with EndOfData for ever, SRC not
being pulled again. -/
def Obligations.ReaderProducesThePaddedStream : Prop :=
  ∀ (msg : List Byte) (rest : Source) (s : State),
    s.phase = .streaming → s.bitcnt = 0 → s.sub = 0 →
    s.src.gives (msg.map .byte ++ [.eos]) rest →
    (paddedStream msg).length = msg.length + 9 + zeroCount msg.length ∧
    (paddedStream msg).length % 64 = 0 ∧
    ∃ u, getBytes (paddedStream msg).length s = some (paddedStream msg, u) ∧
      u.phase = .exhausted ∧ u.src = rest ∧ u.origlen = BitVec.ofNat 64 (8 * msg.length) ∧
      ∀ a, getByte { u with answer := a } = .next { u with answer := some .endOfData }

/-- R68, R147 case 1: 64 bytes from SRC fill the block, little-endian, in 64 steps. -/
def Obligations.SixtyFourBytesMakeABlock : Prop :=
  ∀ (bytes : List Byte) (rest : Source) (s : State), bytes.length = 64 →
    s.est = .fetch → s.phase = .streaming → s.pos = 0 → s.host = [] → s.answer = none →
    s.src.gives (bytes.map .byte) rest →
    core.run 64 s = .next { s with
      M := packBlock bytes, est := .save, src := rest, bitcnt := s.bitcnt + 512 }

/-- R171, R172: the 66 steps from `SAVE` are COMPRESS on the block and the four registers, and touch
nothing of the Reader. That the words of `M` stay through EN.CHAIN is log entry 16. -/
def Obligations.CompressFoldsOneBlock : Prop :=
  ∀ s : State, s.est = .save → s.host = [] →
    ∃ t, core.run 66 s = .next t ∧ t.regs = compress s.M s.regs ∧ t.est = .fetch ∧
      t = { s with
        A := t.A, B := t.B, C := t.C, D := t.D, A0 := s.A, B0 := s.B, C0 := s.C, D0 := s.D,
        i := 63, est := .fetch }

/-- R201, R202: from RESET, on any message, the run is final after exactly `NB(L) * 130 + 1` steps and
not before, having pulled `L + 1` answers, and the registers then hold the fold of COMPRESS over the
blocks of the padded stream. -/
def Obligations.RunComputesTheDigest : Prop :=
  ∀ (msg : List Byte) (source rest : Source),
    source.gives (msg.map .byte ++ [.eos]) rest →
    (∃ t, core.run (blockCount msg.length * 130 + 1) (State.reset.connect source) = .next t ∧
      t.digestValid = true ∧ t.regs = md5Regs msg ∧ t.src = rest ∧ t.faultCode = .none) ∧
    ∀ k, k ≤ blockCount msg.length * 130 →
      ∃ t : State, core.run k (State.reset.connect source) = .next t ∧
        t.digestValid = false ∧ t.faultFlag = false

/-- R62 (b) and (c), R64, R133, R200, R214, R228, R254: the runs without a digest that end or go on by
themselves. A source that fails after `m` bytes ends the run in `FAULT` with its failure information
unchanged, after `m + 1` pulls, and no digest is shown valid. A source that never ends, whatever its
bytes, never ends the run: after every number of steps the Reader is `Streaming`, a step of the core is
enabled and the run is neither final nor failed. The bytes of the endless source are free values (log entry 3). -/
def Obligations.FailingSourceFaultsEndlessNeverEnds : Prop :=
  (∀ (bytes : List Byte) (e : SrcErr) (source rest : Source),
    source.gives (bytes.map .byte ++ [.fail e]) rest →
    ∃ t : State, core.run (bytes.length + 66 * (bytes.length / 64) + 1)
        (State.reset.connect source) = .next t ∧
      t.failed = true ∧ t.faultCode = .sourceReadError ∧ t.errInfo = some e ∧
      t.digestValid = false ∧ t.src = rest ∧
      t.bitcnt = BitVec.ofNat 64 (8 * bytes.length) ∧
      t.regs = foldBlocks (bytes.length / 64) bytes Regs.init) ∧
  ∀ (bytes : List Byte) (source : Source) (k n j : Nat),
    source.gives (bytes.map .byte) (.endless k n) →
    ∃ t : State, core.run j (State.reset.connect source) = .next t ∧
      t.phase = .streaming ∧ t.stepEnabled = true ∧ t.final = false ∧ t.failed = false
end

