-- ==== Sys2Proof/Laws/State.lean ====
section
/-! SUPPORT. One lemma per field per named update of State: what the update writes and what it leaves. -/

namespace Sys2Proof.Machine

variable (s : State)

/-! ### `State.deliver` -/

@[simp] theorem State.deliver_phase (a : Answer) : (s.deliver a).phase = s.phase := rfl
@[simp] theorem State.deliver_bitcnt (a : Answer) : (s.deliver a).bitcnt = s.bitcnt := rfl
@[simp] theorem State.deliver_origlen (a : Answer) : (s.deliver a).origlen = s.origlen := rfl
@[simp] theorem State.deliver_sub (a : Answer) : (s.deliver a).sub = s.sub := rfl
@[simp] theorem State.deliver_wordpos (a : Answer) : (s.deliver a).wordpos = s.wordpos := rfl
@[simp] theorem State.deliver_bytepos (a : Answer) : (s.deliver a).bytepos = s.bytepos := rfl
@[simp] theorem State.deliver_M (a : Answer) : (s.deliver a).M = s.M := rfl
@[simp] theorem State.deliver_A (a : Answer) : (s.deliver a).A = s.A := rfl
@[simp] theorem State.deliver_B (a : Answer) : (s.deliver a).B = s.B := rfl
@[simp] theorem State.deliver_C (a : Answer) : (s.deliver a).C = s.C := rfl
@[simp] theorem State.deliver_D (a : Answer) : (s.deliver a).D = s.D := rfl
@[simp] theorem State.deliver_A0 (a : Answer) : (s.deliver a).A0 = s.A0 := rfl
@[simp] theorem State.deliver_B0 (a : Answer) : (s.deliver a).B0 = s.B0 := rfl
@[simp] theorem State.deliver_C0 (a : Answer) : (s.deliver a).C0 = s.C0 := rfl
@[simp] theorem State.deliver_D0 (a : Answer) : (s.deliver a).D0 = s.D0 := rfl
@[simp] theorem State.deliver_i (a : Answer) : (s.deliver a).i = s.i := rfl
@[simp] theorem State.deliver_est (a : Answer) : (s.deliver a).est = s.est := rfl
@[simp] theorem State.deliver_faultCode (a : Answer) : (s.deliver a).faultCode = s.faultCode := rfl
@[simp] theorem State.deliver_errInfo (a : Answer) : (s.deliver a).errInfo = s.errInfo := rfl
@[simp] theorem State.deliver_src (a : Answer) : (s.deliver a).src = s.src := rfl
@[simp] theorem State.deliver_host (a : Answer) : (s.deliver a).host = s.host := rfl
@[simp] theorem State.deliver_answer (a : Answer) : (s.deliver a).answer = some a := rfl
@[simp] theorem State.deliver_dgRead (a : Answer) : (s.deliver a).dgRead = s.dgRead := rfl
@[simp] theorem State.deliver_hexRead (a : Answer) : (s.deliver a).hexRead = s.hexRead := rfl

/-! ### `State.clearAnswer` -/

@[simp] theorem State.clearAnswer_phase : (s.clearAnswer).phase = s.phase := rfl
@[simp] theorem State.clearAnswer_bitcnt : (s.clearAnswer).bitcnt = s.bitcnt := rfl
@[simp] theorem State.clearAnswer_origlen : (s.clearAnswer).origlen = s.origlen := rfl
@[simp] theorem State.clearAnswer_sub : (s.clearAnswer).sub = s.sub := rfl
@[simp] theorem State.clearAnswer_wordpos : (s.clearAnswer).wordpos = s.wordpos := rfl
@[simp] theorem State.clearAnswer_bytepos : (s.clearAnswer).bytepos = s.bytepos := rfl
@[simp] theorem State.clearAnswer_M : (s.clearAnswer).M = s.M := rfl
@[simp] theorem State.clearAnswer_A : (s.clearAnswer).A = s.A := rfl
@[simp] theorem State.clearAnswer_B : (s.clearAnswer).B = s.B := rfl
@[simp] theorem State.clearAnswer_C : (s.clearAnswer).C = s.C := rfl
@[simp] theorem State.clearAnswer_D : (s.clearAnswer).D = s.D := rfl
@[simp] theorem State.clearAnswer_A0 : (s.clearAnswer).A0 = s.A0 := rfl
@[simp] theorem State.clearAnswer_B0 : (s.clearAnswer).B0 = s.B0 := rfl
@[simp] theorem State.clearAnswer_C0 : (s.clearAnswer).C0 = s.C0 := rfl
@[simp] theorem State.clearAnswer_D0 : (s.clearAnswer).D0 = s.D0 := rfl
@[simp] theorem State.clearAnswer_i : (s.clearAnswer).i = s.i := rfl
@[simp] theorem State.clearAnswer_est : (s.clearAnswer).est = s.est := rfl
@[simp] theorem State.clearAnswer_faultCode : (s.clearAnswer).faultCode = s.faultCode := rfl
@[simp] theorem State.clearAnswer_errInfo : (s.clearAnswer).errInfo = s.errInfo := rfl
@[simp] theorem State.clearAnswer_src : (s.clearAnswer).src = s.src := rfl
@[simp] theorem State.clearAnswer_host : (s.clearAnswer).host = s.host := rfl
@[simp] theorem State.clearAnswer_answer : (s.clearAnswer).answer = none := rfl
@[simp] theorem State.clearAnswer_dgRead : (s.clearAnswer).dgRead = s.dgRead := rfl
@[simp] theorem State.clearAnswer_hexRead : (s.clearAnswer).hexRead = s.hexRead := rfl

/-! ### `State.popSrc` -/

@[simp] theorem State.popSrc_phase : (s.popSrc).phase = s.phase := rfl
@[simp] theorem State.popSrc_bitcnt : (s.popSrc).bitcnt = s.bitcnt := rfl
@[simp] theorem State.popSrc_origlen : (s.popSrc).origlen = s.origlen := rfl
@[simp] theorem State.popSrc_sub : (s.popSrc).sub = s.sub := rfl
@[simp] theorem State.popSrc_wordpos : (s.popSrc).wordpos = s.wordpos := rfl
@[simp] theorem State.popSrc_bytepos : (s.popSrc).bytepos = s.bytepos := rfl
@[simp] theorem State.popSrc_M : (s.popSrc).M = s.M := rfl
@[simp] theorem State.popSrc_A : (s.popSrc).A = s.A := rfl
@[simp] theorem State.popSrc_B : (s.popSrc).B = s.B := rfl
@[simp] theorem State.popSrc_C : (s.popSrc).C = s.C := rfl
@[simp] theorem State.popSrc_D : (s.popSrc).D = s.D := rfl
@[simp] theorem State.popSrc_A0 : (s.popSrc).A0 = s.A0 := rfl
@[simp] theorem State.popSrc_B0 : (s.popSrc).B0 = s.B0 := rfl
@[simp] theorem State.popSrc_C0 : (s.popSrc).C0 = s.C0 := rfl
@[simp] theorem State.popSrc_D0 : (s.popSrc).D0 = s.D0 := rfl
@[simp] theorem State.popSrc_i : (s.popSrc).i = s.i := rfl
@[simp] theorem State.popSrc_est : (s.popSrc).est = s.est := rfl
@[simp] theorem State.popSrc_faultCode : (s.popSrc).faultCode = s.faultCode := rfl
@[simp] theorem State.popSrc_errInfo : (s.popSrc).errInfo = s.errInfo := rfl
@[simp] theorem State.popSrc_src : (s.popSrc).src = s.src.rest := rfl
@[simp] theorem State.popSrc_host : (s.popSrc).host = s.host := rfl
@[simp] theorem State.popSrc_answer : (s.popSrc).answer = s.answer := rfl
@[simp] theorem State.popSrc_dgRead : (s.popSrc).dgRead = s.dgRead := rfl
@[simp] theorem State.popSrc_hexRead : (s.popSrc).hexRead = s.hexRead := rfl

/-! ### `State.countByte` -/

@[simp] theorem State.countByte_phase : (s.countByte).phase = s.phase := rfl
@[simp] theorem State.countByte_bitcnt : (s.countByte).bitcnt = s.bitcnt + 8 := rfl
@[simp] theorem State.countByte_origlen : (s.countByte).origlen = s.origlen := rfl
@[simp] theorem State.countByte_sub : (s.countByte).sub = s.sub := rfl
@[simp] theorem State.countByte_wordpos : (s.countByte).wordpos = s.wordpos := rfl
@[simp] theorem State.countByte_bytepos : (s.countByte).bytepos = s.bytepos := rfl
@[simp] theorem State.countByte_M : (s.countByte).M = s.M := rfl
@[simp] theorem State.countByte_A : (s.countByte).A = s.A := rfl
@[simp] theorem State.countByte_B : (s.countByte).B = s.B := rfl
@[simp] theorem State.countByte_C : (s.countByte).C = s.C := rfl
@[simp] theorem State.countByte_D : (s.countByte).D = s.D := rfl
@[simp] theorem State.countByte_A0 : (s.countByte).A0 = s.A0 := rfl
@[simp] theorem State.countByte_B0 : (s.countByte).B0 = s.B0 := rfl
@[simp] theorem State.countByte_C0 : (s.countByte).C0 = s.C0 := rfl
@[simp] theorem State.countByte_D0 : (s.countByte).D0 = s.D0 := rfl
@[simp] theorem State.countByte_i : (s.countByte).i = s.i := rfl
@[simp] theorem State.countByte_est : (s.countByte).est = s.est := rfl
@[simp] theorem State.countByte_faultCode : (s.countByte).faultCode = s.faultCode := rfl
@[simp] theorem State.countByte_errInfo : (s.countByte).errInfo = s.errInfo := rfl
@[simp] theorem State.countByte_src : (s.countByte).src = s.src := rfl
@[simp] theorem State.countByte_host : (s.countByte).host = s.host := rfl
@[simp] theorem State.countByte_answer : (s.countByte).answer = s.answer := rfl
@[simp] theorem State.countByte_dgRead : (s.countByte).dgRead = s.dgRead := rfl
@[simp] theorem State.countByte_hexRead : (s.countByte).hexRead = s.hexRead := rfl

/-! ### `State.writeBlk` -/

@[simp] theorem State.writeBlk_phase (w : BitVec 4) (v : Word) : (s.writeBlk w v).phase = s.phase := rfl
@[simp] theorem State.writeBlk_bitcnt (w : BitVec 4) (v : Word) : (s.writeBlk w v).bitcnt = s.bitcnt := rfl
@[simp] theorem State.writeBlk_origlen (w : BitVec 4) (v : Word) : (s.writeBlk w v).origlen = s.origlen := rfl
@[simp] theorem State.writeBlk_sub (w : BitVec 4) (v : Word) : (s.writeBlk w v).sub = s.sub := rfl
@[simp] theorem State.writeBlk_wordpos (w : BitVec 4) (v : Word) : (s.writeBlk w v).wordpos = s.wordpos := rfl
@[simp] theorem State.writeBlk_bytepos (w : BitVec 4) (v : Word) : (s.writeBlk w v).bytepos = s.bytepos := rfl
@[simp] theorem State.writeBlk_M (w : BitVec 4) (v : Word) : (s.writeBlk w v).M = s.M.set w.toNat v w.isLt := rfl
@[simp] theorem State.writeBlk_A (w : BitVec 4) (v : Word) : (s.writeBlk w v).A = s.A := rfl
@[simp] theorem State.writeBlk_B (w : BitVec 4) (v : Word) : (s.writeBlk w v).B = s.B := rfl
@[simp] theorem State.writeBlk_C (w : BitVec 4) (v : Word) : (s.writeBlk w v).C = s.C := rfl
@[simp] theorem State.writeBlk_D (w : BitVec 4) (v : Word) : (s.writeBlk w v).D = s.D := rfl
@[simp] theorem State.writeBlk_A0 (w : BitVec 4) (v : Word) : (s.writeBlk w v).A0 = s.A0 := rfl
@[simp] theorem State.writeBlk_B0 (w : BitVec 4) (v : Word) : (s.writeBlk w v).B0 = s.B0 := rfl
@[simp] theorem State.writeBlk_C0 (w : BitVec 4) (v : Word) : (s.writeBlk w v).C0 = s.C0 := rfl
@[simp] theorem State.writeBlk_D0 (w : BitVec 4) (v : Word) : (s.writeBlk w v).D0 = s.D0 := rfl
@[simp] theorem State.writeBlk_i (w : BitVec 4) (v : Word) : (s.writeBlk w v).i = s.i := rfl
@[simp] theorem State.writeBlk_est (w : BitVec 4) (v : Word) : (s.writeBlk w v).est = s.est := rfl
@[simp] theorem State.writeBlk_faultCode (w : BitVec 4) (v : Word) : (s.writeBlk w v).faultCode = s.faultCode := rfl
@[simp] theorem State.writeBlk_errInfo (w : BitVec 4) (v : Word) : (s.writeBlk w v).errInfo = s.errInfo := rfl
@[simp] theorem State.writeBlk_src (w : BitVec 4) (v : Word) : (s.writeBlk w v).src = s.src := rfl
@[simp] theorem State.writeBlk_host (w : BitVec 4) (v : Word) : (s.writeBlk w v).host = s.host := rfl
@[simp] theorem State.writeBlk_answer (w : BitVec 4) (v : Word) : (s.writeBlk w v).answer = s.answer := rfl
@[simp] theorem State.writeBlk_dgRead (w : BitVec 4) (v : Word) : (s.writeBlk w v).dgRead = s.dgRead := rfl
@[simp] theorem State.writeBlk_hexRead (w : BitVec 4) (v : Word) : (s.writeBlk w v).hexRead = s.hexRead := rfl

/-! ### `State.advancePos` -/

@[simp] theorem State.advancePos_phase : (s.advancePos).phase = s.phase := rfl
@[simp] theorem State.advancePos_bitcnt : (s.advancePos).bitcnt = s.bitcnt := rfl
@[simp] theorem State.advancePos_origlen : (s.advancePos).origlen = s.origlen := rfl
@[simp] theorem State.advancePos_sub : (s.advancePos).sub = s.sub := rfl
@[simp] theorem State.advancePos_wordpos : (s.advancePos).wordpos = if s.bytepos = 3 then s.wordpos + 1 else s.wordpos := rfl
@[simp] theorem State.advancePos_bytepos : (s.advancePos).bytepos = s.bytepos + 1 := rfl
@[simp] theorem State.advancePos_M : (s.advancePos).M = s.M := rfl
@[simp] theorem State.advancePos_A : (s.advancePos).A = s.A := rfl
@[simp] theorem State.advancePos_B : (s.advancePos).B = s.B := rfl
@[simp] theorem State.advancePos_C : (s.advancePos).C = s.C := rfl
@[simp] theorem State.advancePos_D : (s.advancePos).D = s.D := rfl
@[simp] theorem State.advancePos_A0 : (s.advancePos).A0 = s.A0 := rfl
@[simp] theorem State.advancePos_B0 : (s.advancePos).B0 = s.B0 := rfl
@[simp] theorem State.advancePos_C0 : (s.advancePos).C0 = s.C0 := rfl
@[simp] theorem State.advancePos_D0 : (s.advancePos).D0 = s.D0 := rfl
@[simp] theorem State.advancePos_i : (s.advancePos).i = s.i := rfl
@[simp] theorem State.advancePos_est : (s.advancePos).est = s.est := rfl
@[simp] theorem State.advancePos_faultCode : (s.advancePos).faultCode = s.faultCode := rfl
@[simp] theorem State.advancePos_errInfo : (s.advancePos).errInfo = s.errInfo := rfl
@[simp] theorem State.advancePos_src : (s.advancePos).src = s.src := rfl
@[simp] theorem State.advancePos_host : (s.advancePos).host = s.host := rfl
@[simp] theorem State.advancePos_answer : (s.advancePos).answer = s.answer := rfl
@[simp] theorem State.advancePos_dgRead : (s.advancePos).dgRead = s.dgRead := rfl
@[simp] theorem State.advancePos_hexRead : (s.advancePos).hexRead = s.hexRead := rfl

/-! ### `State.raiseSourceReadError` -/

@[simp] theorem State.raiseSourceReadError_phase (e : SrcErr) : (s.raiseSourceReadError e).phase = s.phase := rfl
@[simp] theorem State.raiseSourceReadError_bitcnt (e : SrcErr) : (s.raiseSourceReadError e).bitcnt = s.bitcnt := rfl
@[simp] theorem State.raiseSourceReadError_origlen (e : SrcErr) : (s.raiseSourceReadError e).origlen = s.origlen := rfl
@[simp] theorem State.raiseSourceReadError_sub (e : SrcErr) : (s.raiseSourceReadError e).sub = s.sub := rfl
@[simp] theorem State.raiseSourceReadError_wordpos (e : SrcErr) : (s.raiseSourceReadError e).wordpos = s.wordpos := rfl
@[simp] theorem State.raiseSourceReadError_bytepos (e : SrcErr) : (s.raiseSourceReadError e).bytepos = s.bytepos := rfl
@[simp] theorem State.raiseSourceReadError_M (e : SrcErr) : (s.raiseSourceReadError e).M = s.M := rfl
@[simp] theorem State.raiseSourceReadError_A (e : SrcErr) : (s.raiseSourceReadError e).A = s.A := rfl
@[simp] theorem State.raiseSourceReadError_B (e : SrcErr) : (s.raiseSourceReadError e).B = s.B := rfl
@[simp] theorem State.raiseSourceReadError_C (e : SrcErr) : (s.raiseSourceReadError e).C = s.C := rfl
@[simp] theorem State.raiseSourceReadError_D (e : SrcErr) : (s.raiseSourceReadError e).D = s.D := rfl
@[simp] theorem State.raiseSourceReadError_A0 (e : SrcErr) : (s.raiseSourceReadError e).A0 = s.A0 := rfl
@[simp] theorem State.raiseSourceReadError_B0 (e : SrcErr) : (s.raiseSourceReadError e).B0 = s.B0 := rfl
@[simp] theorem State.raiseSourceReadError_C0 (e : SrcErr) : (s.raiseSourceReadError e).C0 = s.C0 := rfl
@[simp] theorem State.raiseSourceReadError_D0 (e : SrcErr) : (s.raiseSourceReadError e).D0 = s.D0 := rfl
@[simp] theorem State.raiseSourceReadError_i (e : SrcErr) : (s.raiseSourceReadError e).i = s.i := rfl
@[simp] theorem State.raiseSourceReadError_est (e : SrcErr) : (s.raiseSourceReadError e).est = .fault := rfl
@[simp] theorem State.raiseSourceReadError_faultCode (e : SrcErr) : (s.raiseSourceReadError e).faultCode = .sourceReadError := rfl
@[simp] theorem State.raiseSourceReadError_errInfo (e : SrcErr) : (s.raiseSourceReadError e).errInfo = some e := rfl
@[simp] theorem State.raiseSourceReadError_src (e : SrcErr) : (s.raiseSourceReadError e).src = s.src := rfl
@[simp] theorem State.raiseSourceReadError_host (e : SrcErr) : (s.raiseSourceReadError e).host = s.host := rfl
@[simp] theorem State.raiseSourceReadError_answer (e : SrcErr) : (s.raiseSourceReadError e).answer = s.answer := rfl
@[simp] theorem State.raiseSourceReadError_dgRead (e : SrcErr) : (s.raiseSourceReadError e).dgRead = s.dgRead := rfl
@[simp] theorem State.raiseSourceReadError_hexRead (e : SrcErr) : (s.raiseSourceReadError e).hexRead = s.hexRead := rfl

/-! ### `State.applyReset` -/

@[simp] theorem State.applyReset_phase : (s.applyReset).phase = State.reset.phase := rfl
@[simp] theorem State.applyReset_bitcnt : (s.applyReset).bitcnt = State.reset.bitcnt := rfl
@[simp] theorem State.applyReset_origlen : (s.applyReset).origlen = State.reset.origlen := rfl
@[simp] theorem State.applyReset_sub : (s.applyReset).sub = State.reset.sub := rfl
@[simp] theorem State.applyReset_wordpos : (s.applyReset).wordpos = State.reset.wordpos := rfl
@[simp] theorem State.applyReset_bytepos : (s.applyReset).bytepos = State.reset.bytepos := rfl
@[simp] theorem State.applyReset_M : (s.applyReset).M = State.reset.M := rfl
@[simp] theorem State.applyReset_A : (s.applyReset).A = State.reset.A := rfl
@[simp] theorem State.applyReset_B : (s.applyReset).B = State.reset.B := rfl
@[simp] theorem State.applyReset_C : (s.applyReset).C = State.reset.C := rfl
@[simp] theorem State.applyReset_D : (s.applyReset).D = State.reset.D := rfl
@[simp] theorem State.applyReset_A0 : (s.applyReset).A0 = State.reset.A0 := rfl
@[simp] theorem State.applyReset_B0 : (s.applyReset).B0 = State.reset.B0 := rfl
@[simp] theorem State.applyReset_C0 : (s.applyReset).C0 = State.reset.C0 := rfl
@[simp] theorem State.applyReset_D0 : (s.applyReset).D0 = State.reset.D0 := rfl
@[simp] theorem State.applyReset_i : (s.applyReset).i = State.reset.i := rfl
@[simp] theorem State.applyReset_est : (s.applyReset).est = State.reset.est := rfl
@[simp] theorem State.applyReset_faultCode : (s.applyReset).faultCode = State.reset.faultCode := rfl
@[simp] theorem State.applyReset_errInfo : (s.applyReset).errInfo = State.reset.errInfo := rfl
@[simp] theorem State.applyReset_src : (s.applyReset).src = s.src := rfl
@[simp] theorem State.applyReset_host : (s.applyReset).host = s.host := rfl
@[simp] theorem State.applyReset_answer : (s.applyReset).answer = State.reset.answer := rfl
@[simp] theorem State.applyReset_dgRead : (s.applyReset).dgRead = State.reset.dgRead := rfl
@[simp] theorem State.applyReset_hexRead : (s.applyReset).hexRead = State.reset.hexRead := rfl

/-! ### `State.advanceHost` -/

@[simp] theorem State.advanceHost_phase : (s.advanceHost).phase = s.phase := rfl
@[simp] theorem State.advanceHost_bitcnt : (s.advanceHost).bitcnt = s.bitcnt := rfl
@[simp] theorem State.advanceHost_origlen : (s.advanceHost).origlen = s.origlen := rfl
@[simp] theorem State.advanceHost_sub : (s.advanceHost).sub = s.sub := rfl
@[simp] theorem State.advanceHost_wordpos : (s.advanceHost).wordpos = s.wordpos := rfl
@[simp] theorem State.advanceHost_bytepos : (s.advanceHost).bytepos = s.bytepos := rfl
@[simp] theorem State.advanceHost_M : (s.advanceHost).M = s.M := rfl
@[simp] theorem State.advanceHost_A : (s.advanceHost).A = s.A := rfl
@[simp] theorem State.advanceHost_B : (s.advanceHost).B = s.B := rfl
@[simp] theorem State.advanceHost_C : (s.advanceHost).C = s.C := rfl
@[simp] theorem State.advanceHost_D : (s.advanceHost).D = s.D := rfl
@[simp] theorem State.advanceHost_A0 : (s.advanceHost).A0 = s.A0 := rfl
@[simp] theorem State.advanceHost_B0 : (s.advanceHost).B0 = s.B0 := rfl
@[simp] theorem State.advanceHost_C0 : (s.advanceHost).C0 = s.C0 := rfl
@[simp] theorem State.advanceHost_D0 : (s.advanceHost).D0 = s.D0 := rfl
@[simp] theorem State.advanceHost_i : (s.advanceHost).i = s.i := rfl
@[simp] theorem State.advanceHost_est : (s.advanceHost).est = s.est := rfl
@[simp] theorem State.advanceHost_faultCode : (s.advanceHost).faultCode = s.faultCode := rfl
@[simp] theorem State.advanceHost_errInfo : (s.advanceHost).errInfo = s.errInfo := rfl
@[simp] theorem State.advanceHost_src : (s.advanceHost).src = s.src := rfl
@[simp] theorem State.advanceHost_host : (s.advanceHost).host = s.host.tail := rfl
@[simp] theorem State.advanceHost_answer : (s.advanceHost).answer = s.answer := rfl
@[simp] theorem State.advanceHost_dgRead : (s.advanceHost).dgRead = s.dgRead := rfl
@[simp] theorem State.advanceHost_hexRead : (s.advanceHost).hexRead = s.hexRead := rfl

/-! ### `State.connect` -/

@[simp] theorem State.connect_phase (r : Source) : (s.connect r).phase = s.phase := rfl
@[simp] theorem State.connect_bitcnt (r : Source) : (s.connect r).bitcnt = s.bitcnt := rfl
@[simp] theorem State.connect_origlen (r : Source) : (s.connect r).origlen = s.origlen := rfl
@[simp] theorem State.connect_sub (r : Source) : (s.connect r).sub = s.sub := rfl
@[simp] theorem State.connect_wordpos (r : Source) : (s.connect r).wordpos = s.wordpos := rfl
@[simp] theorem State.connect_bytepos (r : Source) : (s.connect r).bytepos = s.bytepos := rfl
@[simp] theorem State.connect_M (r : Source) : (s.connect r).M = s.M := rfl
@[simp] theorem State.connect_A (r : Source) : (s.connect r).A = s.A := rfl
@[simp] theorem State.connect_B (r : Source) : (s.connect r).B = s.B := rfl
@[simp] theorem State.connect_C (r : Source) : (s.connect r).C = s.C := rfl
@[simp] theorem State.connect_D (r : Source) : (s.connect r).D = s.D := rfl
@[simp] theorem State.connect_A0 (r : Source) : (s.connect r).A0 = s.A0 := rfl
@[simp] theorem State.connect_B0 (r : Source) : (s.connect r).B0 = s.B0 := rfl
@[simp] theorem State.connect_C0 (r : Source) : (s.connect r).C0 = s.C0 := rfl
@[simp] theorem State.connect_D0 (r : Source) : (s.connect r).D0 = s.D0 := rfl
@[simp] theorem State.connect_i (r : Source) : (s.connect r).i = s.i := rfl
@[simp] theorem State.connect_est (r : Source) : (s.connect r).est = s.est := rfl
@[simp] theorem State.connect_faultCode (r : Source) : (s.connect r).faultCode = s.faultCode := rfl
@[simp] theorem State.connect_errInfo (r : Source) : (s.connect r).errInfo = s.errInfo := rfl
@[simp] theorem State.connect_src (r : Source) : (s.connect r).src = r := rfl
@[simp] theorem State.connect_host (r : Source) : (s.connect r).host = s.host := rfl
@[simp] theorem State.connect_answer (r : Source) : (s.connect r).answer = s.answer := rfl
@[simp] theorem State.connect_dgRead (r : Source) : (s.connect r).dgRead = s.dgRead := rfl
@[simp] theorem State.connect_hexRead (r : Source) : (s.connect r).hexRead = s.hexRead := rfl

/-! ### `State.drive` -/

@[simp] theorem State.drive_phase (l : List HostAct) : (s.drive l).phase = s.phase := rfl
@[simp] theorem State.drive_bitcnt (l : List HostAct) : (s.drive l).bitcnt = s.bitcnt := rfl
@[simp] theorem State.drive_origlen (l : List HostAct) : (s.drive l).origlen = s.origlen := rfl
@[simp] theorem State.drive_sub (l : List HostAct) : (s.drive l).sub = s.sub := rfl
@[simp] theorem State.drive_wordpos (l : List HostAct) : (s.drive l).wordpos = s.wordpos := rfl
@[simp] theorem State.drive_bytepos (l : List HostAct) : (s.drive l).bytepos = s.bytepos := rfl
@[simp] theorem State.drive_M (l : List HostAct) : (s.drive l).M = s.M := rfl
@[simp] theorem State.drive_A (l : List HostAct) : (s.drive l).A = s.A := rfl
@[simp] theorem State.drive_B (l : List HostAct) : (s.drive l).B = s.B := rfl
@[simp] theorem State.drive_C (l : List HostAct) : (s.drive l).C = s.C := rfl
@[simp] theorem State.drive_D (l : List HostAct) : (s.drive l).D = s.D := rfl
@[simp] theorem State.drive_A0 (l : List HostAct) : (s.drive l).A0 = s.A0 := rfl
@[simp] theorem State.drive_B0 (l : List HostAct) : (s.drive l).B0 = s.B0 := rfl
@[simp] theorem State.drive_C0 (l : List HostAct) : (s.drive l).C0 = s.C0 := rfl
@[simp] theorem State.drive_D0 (l : List HostAct) : (s.drive l).D0 = s.D0 := rfl
@[simp] theorem State.drive_i (l : List HostAct) : (s.drive l).i = s.i := rfl
@[simp] theorem State.drive_est (l : List HostAct) : (s.drive l).est = s.est := rfl
@[simp] theorem State.drive_faultCode (l : List HostAct) : (s.drive l).faultCode = s.faultCode := rfl
@[simp] theorem State.drive_errInfo (l : List HostAct) : (s.drive l).errInfo = s.errInfo := rfl
@[simp] theorem State.drive_src (l : List HostAct) : (s.drive l).src = s.src := rfl
@[simp] theorem State.drive_host (l : List HostAct) : (s.drive l).host = l := rfl
@[simp] theorem State.drive_answer (l : List HostAct) : (s.drive l).answer = s.answer := rfl
@[simp] theorem State.drive_dgRead (l : List HostAct) : (s.drive l).dgRead = s.dgRead := rfl
@[simp] theorem State.drive_hexRead (l : List HostAct) : (s.drive l).hexRead = s.hexRead := rfl

/-! ### `State.advanceSub` -/

@[simp] theorem State.advanceSub_phase (p : Phase) : (s.advanceSub p).phase = if s.sub = 3 then p else s.phase := by
  unfold State.advanceSub
  split <;> rfl
@[simp] theorem State.advanceSub_bitcnt (p : Phase) : (s.advanceSub p).bitcnt = s.bitcnt := by
  unfold State.advanceSub
  split <;> rfl
@[simp] theorem State.advanceSub_origlen (p : Phase) : (s.advanceSub p).origlen = s.origlen := by
  unfold State.advanceSub
  split <;> rfl
@[simp] theorem State.advanceSub_sub (p : Phase) : (s.advanceSub p).sub = s.sub + 1 := by
  unfold State.advanceSub
  split
  · next h => rw [h]; rfl
  · rfl
@[simp] theorem State.advanceSub_wordpos (p : Phase) : (s.advanceSub p).wordpos = s.wordpos := by
  unfold State.advanceSub
  split <;> rfl
@[simp] theorem State.advanceSub_bytepos (p : Phase) : (s.advanceSub p).bytepos = s.bytepos := by
  unfold State.advanceSub
  split <;> rfl
@[simp] theorem State.advanceSub_M (p : Phase) : (s.advanceSub p).M = s.M := by
  unfold State.advanceSub
  split <;> rfl
@[simp] theorem State.advanceSub_A (p : Phase) : (s.advanceSub p).A = s.A := by
  unfold State.advanceSub
  split <;> rfl
@[simp] theorem State.advanceSub_B (p : Phase) : (s.advanceSub p).B = s.B := by
  unfold State.advanceSub
  split <;> rfl
@[simp] theorem State.advanceSub_C (p : Phase) : (s.advanceSub p).C = s.C := by
  unfold State.advanceSub
  split <;> rfl
@[simp] theorem State.advanceSub_D (p : Phase) : (s.advanceSub p).D = s.D := by
  unfold State.advanceSub
  split <;> rfl
@[simp] theorem State.advanceSub_A0 (p : Phase) : (s.advanceSub p).A0 = s.A0 := by
  unfold State.advanceSub
  split <;> rfl
@[simp] theorem State.advanceSub_B0 (p : Phase) : (s.advanceSub p).B0 = s.B0 := by
  unfold State.advanceSub
  split <;> rfl
@[simp] theorem State.advanceSub_C0 (p : Phase) : (s.advanceSub p).C0 = s.C0 := by
  unfold State.advanceSub
  split <;> rfl
@[simp] theorem State.advanceSub_D0 (p : Phase) : (s.advanceSub p).D0 = s.D0 := by
  unfold State.advanceSub
  split <;> rfl
@[simp] theorem State.advanceSub_i (p : Phase) : (s.advanceSub p).i = s.i := by
  unfold State.advanceSub
  split <;> rfl
@[simp] theorem State.advanceSub_est (p : Phase) : (s.advanceSub p).est = s.est := by
  unfold State.advanceSub
  split <;> rfl
@[simp] theorem State.advanceSub_faultCode (p : Phase) : (s.advanceSub p).faultCode = s.faultCode := by
  unfold State.advanceSub
  split <;> rfl
@[simp] theorem State.advanceSub_errInfo (p : Phase) : (s.advanceSub p).errInfo = s.errInfo := by
  unfold State.advanceSub
  split <;> rfl
@[simp] theorem State.advanceSub_src (p : Phase) : (s.advanceSub p).src = s.src := by
  unfold State.advanceSub
  split <;> rfl
@[simp] theorem State.advanceSub_host (p : Phase) : (s.advanceSub p).host = s.host := by
  unfold State.advanceSub
  split <;> rfl
@[simp] theorem State.advanceSub_answer (p : Phase) : (s.advanceSub p).answer = s.answer := by
  unfold State.advanceSub
  split <;> rfl
@[simp] theorem State.advanceSub_dgRead (p : Phase) : (s.advanceSub p).dgRead = s.dgRead := by
  unfold State.advanceSub
  split <;> rfl
@[simp] theorem State.advanceSub_hexRead (p : Phase) : (s.advanceSub p).hexRead = s.hexRead := by
  unfold State.advanceSub
  split <;> rfl

/-! ### `roundStep` -/

@[simp] theorem roundStep_phase (f : Word) (g : BitVec 4) :
    (roundStep f g s).phase = s.phase := rfl
@[simp] theorem roundStep_bitcnt (f : Word) (g : BitVec 4) :
    (roundStep f g s).bitcnt = s.bitcnt := rfl
@[simp] theorem roundStep_origlen (f : Word) (g : BitVec 4) :
    (roundStep f g s).origlen = s.origlen := rfl
@[simp] theorem roundStep_sub (f : Word) (g : BitVec 4) :
    (roundStep f g s).sub = s.sub := rfl
@[simp] theorem roundStep_wordpos (f : Word) (g : BitVec 4) :
    (roundStep f g s).wordpos = s.wordpos := rfl
@[simp] theorem roundStep_bytepos (f : Word) (g : BitVec 4) :
    (roundStep f g s).bytepos = s.bytepos := rfl
@[simp] theorem roundStep_M (f : Word) (g : BitVec 4) :
    (roundStep f g s).M = s.M := rfl
@[simp] theorem roundStep_A (f : Word) (g : BitVec 4) :
    (roundStep f g s).A = s.D := rfl
@[simp] theorem roundStep_B (f : Word) (g : BitVec 4) :
    (roundStep f g s).B = s.B + rotl32 (f + s.A + roundConstant s.i + s.readBlk g) (shiftAmount s.i).toNat := rfl
@[simp] theorem roundStep_C (f : Word) (g : BitVec 4) :
    (roundStep f g s).C = s.B := rfl
@[simp] theorem roundStep_D (f : Word) (g : BitVec 4) :
    (roundStep f g s).D = s.C := rfl
@[simp] theorem roundStep_A0 (f : Word) (g : BitVec 4) :
    (roundStep f g s).A0 = s.A0 := rfl
@[simp] theorem roundStep_B0 (f : Word) (g : BitVec 4) :
    (roundStep f g s).B0 = s.B0 := rfl
@[simp] theorem roundStep_C0 (f : Word) (g : BitVec 4) :
    (roundStep f g s).C0 = s.C0 := rfl
@[simp] theorem roundStep_D0 (f : Word) (g : BitVec 4) :
    (roundStep f g s).D0 = s.D0 := rfl
@[simp] theorem roundStep_i (f : Word) (g : BitVec 4) :
    (roundStep f g s).i = if s.i = 63 then s.i else s.i + 1 := rfl
@[simp] theorem roundStep_est (f : Word) (g : BitVec 4) :
    (roundStep f g s).est = if s.i = 63 then .chain else s.est := rfl
@[simp] theorem roundStep_faultCode (f : Word) (g : BitVec 4) :
    (roundStep f g s).faultCode = s.faultCode := rfl
@[simp] theorem roundStep_errInfo (f : Word) (g : BitVec 4) :
    (roundStep f g s).errInfo = s.errInfo := rfl
@[simp] theorem roundStep_src (f : Word) (g : BitVec 4) :
    (roundStep f g s).src = s.src := rfl
@[simp] theorem roundStep_host (f : Word) (g : BitVec 4) :
    (roundStep f g s).host = s.host := rfl
@[simp] theorem roundStep_answer (f : Word) (g : BitVec 4) :
    (roundStep f g s).answer = s.answer := rfl
@[simp] theorem roundStep_dgRead (f : Word) (g : BitVec 4) :
    (roundStep f g s).dgRead = s.dgRead := rfl
@[simp] theorem roundStep_hexRead (f : Word) (g : BitVec 4) :
    (roundStep f g s).hexRead = s.hexRead := rfl

/-! ### `State.orLane` -/

@[simp] theorem State.orLane_phase (w : BitVec 4) (k : Nat) (b : Byte) :
    (s.orLane w k b).phase = s.phase := rfl
@[simp] theorem State.orLane_bitcnt (w : BitVec 4) (k : Nat) (b : Byte) :
    (s.orLane w k b).bitcnt = s.bitcnt := rfl
@[simp] theorem State.orLane_origlen (w : BitVec 4) (k : Nat) (b : Byte) :
    (s.orLane w k b).origlen = s.origlen := rfl
@[simp] theorem State.orLane_sub (w : BitVec 4) (k : Nat) (b : Byte) :
    (s.orLane w k b).sub = s.sub := rfl
@[simp] theorem State.orLane_wordpos (w : BitVec 4) (k : Nat) (b : Byte) :
    (s.orLane w k b).wordpos = if s.bytepos = 3 then s.wordpos + 1 else s.wordpos := rfl
@[simp] theorem State.orLane_bytepos (w : BitVec 4) (k : Nat) (b : Byte) :
    (s.orLane w k b).bytepos = s.bytepos + 1 := rfl
@[simp] theorem State.orLane_M (w : BitVec 4) (k : Nat) (b : Byte) :
    (s.orLane w k b).M = s.M.set w.toNat (s.readBlk w ||| intoLane b k) w.isLt := rfl
@[simp] theorem State.orLane_A (w : BitVec 4) (k : Nat) (b : Byte) :
    (s.orLane w k b).A = s.A := rfl
@[simp] theorem State.orLane_B (w : BitVec 4) (k : Nat) (b : Byte) :
    (s.orLane w k b).B = s.B := rfl
@[simp] theorem State.orLane_C (w : BitVec 4) (k : Nat) (b : Byte) :
    (s.orLane w k b).C = s.C := rfl
@[simp] theorem State.orLane_D (w : BitVec 4) (k : Nat) (b : Byte) :
    (s.orLane w k b).D = s.D := rfl
@[simp] theorem State.orLane_A0 (w : BitVec 4) (k : Nat) (b : Byte) :
    (s.orLane w k b).A0 = s.A0 := rfl
@[simp] theorem State.orLane_B0 (w : BitVec 4) (k : Nat) (b : Byte) :
    (s.orLane w k b).B0 = s.B0 := rfl
@[simp] theorem State.orLane_C0 (w : BitVec 4) (k : Nat) (b : Byte) :
    (s.orLane w k b).C0 = s.C0 := rfl
@[simp] theorem State.orLane_D0 (w : BitVec 4) (k : Nat) (b : Byte) :
    (s.orLane w k b).D0 = s.D0 := rfl
@[simp] theorem State.orLane_i (w : BitVec 4) (k : Nat) (b : Byte) :
    (s.orLane w k b).i = s.i := rfl
@[simp] theorem State.orLane_est (w : BitVec 4) (k : Nat) (b : Byte) :
    (s.orLane w k b).est = s.est := rfl
@[simp] theorem State.orLane_faultCode (w : BitVec 4) (k : Nat) (b : Byte) :
    (s.orLane w k b).faultCode = s.faultCode := rfl
@[simp] theorem State.orLane_errInfo (w : BitVec 4) (k : Nat) (b : Byte) :
    (s.orLane w k b).errInfo = s.errInfo := rfl
@[simp] theorem State.orLane_src (w : BitVec 4) (k : Nat) (b : Byte) :
    (s.orLane w k b).src = s.src := rfl
@[simp] theorem State.orLane_host (w : BitVec 4) (k : Nat) (b : Byte) :
    (s.orLane w k b).host = s.host := rfl
@[simp] theorem State.orLane_answer (w : BitVec 4) (k : Nat) (b : Byte) :
    (s.orLane w k b).answer = s.answer := rfl
@[simp] theorem State.orLane_dgRead (w : BitVec 4) (k : Nat) (b : Byte) :
    (s.orLane w k b).dgRead = s.dgRead := rfl
@[simp] theorem State.orLane_hexRead (w : BitVec 4) (k : Nat) (b : Byte) :
    (s.orLane w k b).hexRead = s.hexRead := rfl

end Sys2Proof.Machine
end

