-- ==== Sys2Proof/Laws/Ops.lean ====
section
/-! SUPPORT. One lemma per shared operation that says once everything it can do; the provers cite these
instead of unfolding the operation. -/

namespace Sys2Proof.Machine

/-! ### The `require` line -/

@[simp] theorem whenSelected_true (m : String) (o : Out) : whenSelected true m o = o := rfl

@[simp] theorem whenSelected_false (m : String) (o : Out) :
    whenSelected false m o = .refused (.notSelected m) := rfl

/-- An operation that answers a next state was selected. -/
theorem whenSelected_next {c : Bool} {m : String} {o : Out} {t : State}
    (h : whenSelected c m o = .next t) : c = true ∧ o = .next t := by
  cases c
  · cases h
  · exact ⟨rfl, h⟩

theorem whenSelected_of {c : Bool} (h : c = true) (m : String) (o : Out) :
    whenSelected c m o = o := by
  rw [h]; rfl

/-! ### The block buffer -/

@[simp] theorem readBlk_writeBlk_same (s : State) (w : BitVec 4) (v : Word) :
    (s.writeBlk w v).readBlk w = v := by
  simp [State.readBlk, State.writeBlk]

theorem readBlk_writeBlk_other (s : State) {w g : BitVec 4} (v : Word) (h : g ≠ w) :
    (s.writeBlk w v).readBlk g = s.readBlk g := by
  have hne : w.toNat ≠ g.toNat := fun e => h (BitVec.eq_of_toNat_eq e.symm)
  simp [State.readBlk, State.writeBlk, hne]

/-- Reading a block word looks at `M` alone. -/
theorem readBlk_congr {s t : State} (h : s.M = t.M) (g : BitVec 4) : s.readBlk g = t.readBlk g := by
  unfold State.readBlk
  simp [h]

@[simp] theorem readBlk_advancePos (s : State) (g : BitVec 4) :
    s.advancePos.readBlk g = s.readBlk g := rfl

/-- The position counter counts one up, modulo 64 (R24). -/
theorem advancePos_pos (s : State) : s.advancePos.pos = s.pos + 1 := by
  have key : ∀ (w : BitVec 4) (b : BitVec 2),
      (if b = 3 then w + 1 else w) ++ (b + 1) = (w ++ b : BitVec 6) + 1 := by decide
  exact key s.wordpos s.bytepos

/-! ### Arithmetic -/

/-- R10: `rotl32` is the rotation of the library. -/
theorem rotl32_eq_rotateLeft (x : Word) {n : Nat} (h : n < 32) : rotl32 x n = x.rotateLeft n := by
  rw [BitVec.rotateLeft_def, Nat.mod_eq_of_lt h]
  unfold rotl32
  split
  · next h0 =>
    subst h0
    ext k hk
    simp
  · rfl

/-! ### The byte request -/

/-- R118: what a byte request can do when it answers a next state: not answered it changes nothing but
the wire; else it is one of the eight PB operations, with its answer on the wire. -/
theorem getByte_next {s t : State} (h : getByte s = .next t) :
    (s.phase = .streaming ∧ s.src.head? = none ∧ t = s.clearAnswer) ∨
    (∃ b, s.phase = .streaming ∧ s.src.head? = some (.byte b) ∧
      t = { s with src := s.src.rest, bitcnt := s.bitcnt + 8, answer := some (.byte b) }) ∨
    (s.phase = .streaming ∧ s.src.head? = some .eos ∧
      t = { s with
        src := s.src.rest, origlen := s.bitcnt, bitcnt := s.bitcnt + 8, phase := .paddingZeroes,
        answer := some (.byte terminator) }) ∨
    (∃ e, s.phase = .streaming ∧ s.src.head? = some (.fail e) ∧
      t = { s with
        src := s.src.rest, est := .fault, faultCode := .sourceReadError, errInfo := some e,
        answer := some (.sourceReadError e) }) ∨
    (s.phase = .paddingZeroes ∧ s.at448 = false ∧
      t = { s with bitcnt := s.bitcnt + 8, answer := some (.byte zeroByte) }) ∨
    (s.phase = .paddingZeroes ∧ s.at448 = true ∧
      t = { s with
        phase := .lengthLow, sub := 1, answer := some (.byte (lengthByteLow s.origlen 0)) }) ∨
    (s.phase = .lengthLow ∧
      t = (s.advanceSub .lengthHigh).deliver (.byte (lengthByteLow s.origlen s.sub))) ∨
    (s.phase = .lengthHigh ∧
      t = (s.advanceSub .exhausted).deliver (.byte (lengthByteHigh s.origlen s.sub))) ∨
    (s.phase = .exhausted ∧ t = { s with answer := some .endOfData }) := by
  unfold getByte at h
  have hat : s.clearAnswer.at448 = s.at448 := rfl
  cases hp : s.phase with
  | streaming =>
    cases hs : s.src.head? with
    | none =>
      simp only [State.clearAnswer_phase, State.clearAnswer_src, hp, hs] at h
      cases h
      exact .inl ⟨rfl, rfl, rfl⟩
    | some a =>
      cases a with
      | byte b =>
        simp [hp, hs, execPbStreamByte, onPull] at h
        subst h
        exact .inr (.inl ⟨b, rfl, rfl, by
          simp [State.deliver, State.countByte, State.popSrc, State.clearAnswer, hp]⟩)
      | eos =>
        simp [hp, hs, execPbStreamEos, onPull] at h
        subst h
        exact .inr (.inr (.inl ⟨rfl, rfl, by simp [State.deliver]⟩))
      | fail e =>
        simp [hp, hs, execPbStreamFail, onPull] at h
        subst h
        exact .inr (.inr (.inr (.inl ⟨e, rfl, rfl, by
          simp [State.deliver, State.raiseSourceReadError, State.popSrc, State.clearAnswer, hp]⟩)))
      | reserved => simp [hp, hs] at h
  | paddingZeroes =>
    cases ha : s.at448 with
    | false =>
      simp [hp, hat, ha, execPbPadzZero] at h
      subst h
      exact .inr (.inr (.inr (.inr (.inl ⟨rfl, rfl, by
        simp [State.deliver, State.countByte, State.clearAnswer, hp]⟩))))
    | true =>
      simp [hp, hat, ha, execPbPadzLen] at h
      subst h
      exact .inr (.inr (.inr (.inr (.inr (.inl ⟨rfl, rfl, by
        simp [State.deliver]⟩)))))
  | lengthLow =>
    simp [hp, execPbLenlo] at h
    subst h
    refine .inr (.inr (.inr (.inr (.inr (.inr (.inl ⟨rfl, ?_⟩))))))
    unfold State.advanceSub State.deliver State.clearAnswer
    dsimp only
    split <;> rfl
  | lengthHigh =>
    simp [hp, execPbLenhi] at h
    subst h
    refine .inr (.inr (.inr (.inr (.inr (.inr (.inr (.inl ⟨rfl, ?_⟩)))))))
    unfold State.advanceSub State.deliver State.clearAnswer
    dsimp only
    split <;> rfl
  | exhausted =>
    simp [hp, execPbExh] at h
    subst h
    exact .inr (.inr (.inr (.inr (.inr (.inr (.inr (.inr ⟨rfl, by
      simp [State.deliver, State.clearAnswer, hp]⟩)))))))

/-- R107: a byte request is refused only for the reserved source answer, and never faults. -/
theorem getByte_not_next {s : State} (h : ∀ t, getByte s ≠ .next t) :
    s.phase = .streaming ∧ s.src.head? = some .reserved ∧
      getByte s = .refused .reservedSrcKind := by
  unfold getByte at h ⊢
  cases hp : s.phase with
  | streaming =>
    cases hs : s.src.head? with
    | none => simp [hp, hs] at h
    | some a =>
      cases a <;> simp [hp, hs, execPbStreamByte, execPbStreamEos, execPbStreamFail, onPull] at h ⊢
  | paddingZeroes =>
    by_cases ha : s.clearAnswer.at448 = true <;>
      simp [hp, ha, execPbPadzZero, execPbPadzLen] at h
  | lengthLow => simp [hp, execPbLenlo] at h
  | lengthHigh => simp [hp, execPbLenhi] at h
  | exhausted => simp [hp, execPbExh] at h

/-- R140: everything a BA operation can do with its byte request. -/
theorem byteStep_next {s t : State} {f : Byte → State → State} {e : State → Out}
    (h : byteStep s f e = .next t) :
    ∃ u, getByte s = .next u ∧
      ((u.answer = none ∧ t = s) ∨
       (∃ b, u.answer = some (.byte b) ∧ t = f b u.clearAnswer) ∨
       (u.answer = some .endOfData ∧ e u.clearAnswer = .next t) ∨
       (∃ r, u.answer = some (.sourceReadError r) ∧ t = u.clearAnswer)) := by
  unfold byteStep at h
  cases hg : getByte s with
  | fault r => rw [hg] at h; cases h
  | refused r => rw [hg] at h; cases h
  | next u =>
    rw [hg] at h
    refine ⟨u, rfl, ?_⟩
    cases ha : u.answer with
    | none => simp only [ha] at h; cases h; exact .inl ⟨rfl, rfl⟩
    | some a =>
      cases a with
      | byte b => simp only [ha] at h; cases h; exact .inr (.inl ⟨b, rfl, rfl⟩)
      | endOfData => simp only [ha] at h; exact .inr (.inr (.inl ⟨rfl, h⟩))
      | sourceReadError r =>
        simp only [ha] at h; cases h; exact .inr (.inr (.inr ⟨r, rfl, rfl⟩))

end Sys2Proof.Machine
end

