-- ==== Sys2Proof/Laws/Step.lean ====
section
/-! SUPPORT. What one step can do. -/

namespace Sys2Proof.Machine

/-- A step performs the selected operation and lets HOST's action pass. -/
theorem step_next {s t : State} (h : step s = .next t) :
    ∃ u, exec s.current s = .next u ∧ t = u.advanceHost := by
  unfold step at h
  cases he : exec s.current s with
  | next u => rw [he] at h; cases h; exact ⟨u, rfl, rfl⟩
  | fault r => rw [he] at h; cases h
  | refused r => rw [he] at h; cases h

theorem step_of_exec {s u : State} (h : exec s.current s = .next u) :
    step s = .next u.advanceHost := by
  unfold step; rw [h]

/-- With HOST idle, the operation is the sequencer's (R101 rule 2). -/
theorem current_of_undisturbed {s : State} (h : s.undisturbed = true) :
    s.current = match s.est with
      | .fetch => .enFetch | .save => .enSave | .round => .enRound
      | .chain => .enChain | .done => .enDone | .fault => .enFault := by
  unfold State.current
  cases hh : s.host.head? with
  | none => rfl
  | some a =>
    cases a with
    | idle => rfl
    | rst => simp [State.undisturbed, hh] at h
    | readDigest => simp [State.undisturbed, hh] at h
    | readHex => simp [State.undisturbed, hh] at h

/-- One step and then `k` more. -/
theorem run_succ (M : Host.Core) {k : Nat} {s u : M.State} (h : M.step s = .next u) :
    M.run (k + 1) s = M.run k u := by
  simp only [Host.Core.run, h]

/-- Running `a + b` steps is running `a` and then `b`. -/
theorem run_add (M : Host.Core) (a b : Nat) (s t : M.State) (h : M.run a s = .next t) :
    M.run (a + b) s = M.run b t := by
  induction a generalizing s with
  | zero => cases h; rw [Nat.zero_add]
  | succ n ih =>
    cases hs : M.step s with
    | next u =>
      rw [run_succ M hs] at h
      rw [Nat.add_right_comm, run_succ M hs]
      exact ih u h
    | fault r => simp [Host.Core.run, hs] at h
    | refused r => simp [Host.Core.run, hs] at h

end Sys2Proof.Machine
end

