-- ==== Sys2Proof/Laws/Fetch.lean ====
section
/-! SUPPORT. What a FETCH step can do, said once: the inversion lemma of EN.FETCH. -/

namespace Sys2Proof.Machine

/-- A byte position is one of four. -/
theorem bytepos_cases (k : BitVec 2) : k = 0 ∨ k = 1 ∨ k = 2 ∨ k = 3 := by
  revert k; decide

/-- What a byte request leaves alone, whatever its answer (R119, R134). -/
theorem getByte_frame {s u : State} (h : getByte s = .next u) :
    u.M = s.M ∧ u.wordpos = s.wordpos ∧ u.bytepos = s.bytepos ∧ u.regs = s.regs ∧
      u.A0 = s.A0 ∧ u.B0 = s.B0 ∧ u.C0 = s.C0 ∧ u.D0 = s.D0 ∧ u.i = s.i ∧ u.host = s.host ∧
      u.dgRead = s.dgRead ∧ u.hexRead = s.hexRead ∧
      (∀ b, u.answer = some (.byte b) →
        u.est = s.est ∧ u.faultCode = s.faultCode ∧ u.errInfo = s.errInfo) := by
  rcases getByte_next h with ⟨-, -, rfl⟩ | ⟨b, -, -, rfl⟩ | ⟨-, -, rfl⟩ |
    ⟨e, -, -, rfl⟩ | ⟨-, -, rfl⟩ | ⟨-, -, rfl⟩ | ⟨-, rfl⟩ | ⟨-, rfl⟩ | ⟨-, rfl⟩ <;>
  simp [State.regs]

/-- R141 to R144: the state after the Reader's byte `b` has been taken at the position of `u`. -/
def State.takeByte (u : State) (b : Byte) : State :=
  { u with
    M := u.M.set u.wordpos.toNat
      ((if u.bytepos = 0 then 0 else u.readBlk u.wordpos) ||| intoLane b u.bytepos.toNat)
      u.wordpos.isLt
    wordpos := if u.bytepos = 3 then u.wordpos + 1 else u.wordpos
    bytepos := u.bytepos + 1
    est := if u.wordpos = 15 ∧ u.bytepos = 3 then .save else u.est
    answer := none }

/-- R140 to R146, R191: EN.FETCH, all four BA operations at once. It waits, or takes a byte, or meets
EndOfData at the first byte of a word, or takes the fault. -/
theorem execEnFetch_next {s t : State} (he : s.est = .fetch) (h : execEnFetch s = .next t) :
    (s.phase = .streaming ∧ s.src.head? = none ∧ t = s) ∨
    (∃ u b, getByte s = .next u ∧ u.answer = some (.byte b) ∧ t = u.takeByte b) ∨
    (s.phase = .exhausted ∧ s.bytepos = 0 ∧ t = { s with est := .done, answer := none }) ∨
    (∃ e, s.phase = .streaming ∧ s.src.head? = some (.fail e) ∧
      t = { s with
        src := s.src.rest, est := .fault, faultCode := .sourceReadError, errInfo := some e,
        answer := none }) := by
  have key : ∃ (f : Byte → State → State) (e : State → Out), byteStep s f e = .next t ∧
      (∀ b u, getByte s = .next u → f b u.clearAnswer = u.takeByte b) ∧
      (∀ u v, e u = .next v → s.bytepos = 0 ∧ v = { u with est := .done }) := by
    have frame : ∀ {u}, getByte s = .next u → u.wordpos = s.wordpos ∧ u.bytepos = s.bytepos :=
      fun hg => ⟨(getByte_frame hg).2.1, (getByte_frame hg).2.2.1⟩
    unfold execEnFetch at h
    obtain ⟨-, h⟩ := whenSelected_next h
    rcases bytepos_cases s.bytepos with hb | hb | hb | hb
    · rw [if_pos hb] at h
      obtain ⟨-, h⟩ := whenSelected_next h
      refine ⟨_, _, h, fun b u hg => ?_, fun u v h => ?_⟩
      · obtain ⟨hw, hk⟩ := frame hg
        rw [hb] at hk
        simp [State.takeByte, State.writeBlk, State.advancePos, State.clearAnswer, hk, hw]
      · cases h; exact ⟨hb, rfl⟩
    · rw [if_neg (by rw [hb]; decide), if_pos hb] at h
      obtain ⟨-, h⟩ := whenSelected_next h
      refine ⟨_, _, h, fun b u hg => ?_, fun u v h => ?_⟩
      · obtain ⟨hw, hk⟩ := frame hg
        rw [hb] at hk
        simp [State.takeByte, State.orLane, State.writeBlk, State.advancePos, State.clearAnswer,
          State.readBlk, hk, hw]
      · cases h
    · rw [if_neg (by rw [hb]; decide), if_neg (by rw [hb]; decide), if_pos hb] at h
      obtain ⟨-, h⟩ := whenSelected_next h
      refine ⟨_, _, h, fun b u hg => ?_, fun u v h => ?_⟩
      · obtain ⟨hw, hk⟩ := frame hg
        rw [hb] at hk
        simp [State.takeByte, State.orLane, State.writeBlk, State.advancePos, State.clearAnswer,
          State.readBlk, hk, hw]
      · cases h
    · rw [if_neg (by rw [hb]; decide), if_neg (by rw [hb]; decide),
        if_neg (by rw [hb]; decide)] at h
      obtain ⟨-, h⟩ := whenSelected_next h
      refine ⟨_, _, h, fun b u hg => ?_, fun u v h => ?_⟩
      · obtain ⟨hw, hk⟩ := frame hg
        rw [hb] at hk
        by_cases h15 : s.wordpos = 15
        · rw [if_pos h15]
          simp [State.takeByte, State.orLane, State.writeBlk, State.advancePos,
            State.clearAnswer, State.readBlk, hk, hw, h15]
        · rw [if_neg h15]
          have h15' : s.wordpos ≠ 15#4 := h15
          simp [State.takeByte, State.orLane, State.writeBlk, State.advancePos,
            State.clearAnswer, State.readBlk, hk, hw, h15']
      · cases h
  obtain ⟨f, e, hs, hf, hend⟩ := key
  obtain ⟨u, hg, hs⟩ := byteStep_next hs
  rcases hs with ⟨ha, rfl⟩ | ⟨b, ha, rfl⟩ | ⟨ha, hs⟩ | ⟨r, ha, rfl⟩
  · refine .inl ?_
    rcases getByte_next hg with ⟨hp, hs, -⟩ | ⟨_, -, -, rfl⟩ | ⟨-, -, rfl⟩ |
      ⟨_, -, -, rfl⟩ | ⟨-, -, rfl⟩ | ⟨-, -, rfl⟩ | ⟨-, rfl⟩ | ⟨-, rfl⟩ | ⟨-, rfl⟩
    · exact ⟨hp, hs, rfl⟩
    all_goals simp at ha
  · exact .inr (.inl ⟨u, b, hg, ha, hf b u hg⟩)
  · obtain ⟨hb, rfl⟩ := hend _ _ hs
    refine .inr (.inr (.inl ?_))
    rcases getByte_next hg with ⟨-, -, rfl⟩ | ⟨_, -, -, rfl⟩ | ⟨-, -, rfl⟩ |
      ⟨_, -, -, rfl⟩ | ⟨-, -, rfl⟩ | ⟨-, -, rfl⟩ | ⟨-, rfl⟩ | ⟨-, rfl⟩ | ⟨hp, rfl⟩
    · simp at ha
    all_goals first
      | (simp at ha; done)
      | exact ⟨hp, hb, rfl⟩
  · refine .inr (.inr (.inr ?_))
    rcases getByte_next hg with ⟨-, -, rfl⟩ | ⟨_, -, -, rfl⟩ | ⟨-, -, rfl⟩ |
      ⟨e', hp, hsrc, rfl⟩ | ⟨-, -, rfl⟩ | ⟨-, -, rfl⟩ | ⟨-, rfl⟩ | ⟨-, rfl⟩ | ⟨-, rfl⟩
    · simp at ha
    all_goals first
      | (simp at ha; done)
      | exact ⟨e', hp, hsrc, rfl⟩

end Sys2Proof.Machine
end

