-- ==== Sys2Proof/Laws/Cases.lean ====
section
/-! SUPPORT. What one step of the machine can do, said once: the inversion lemma of `step`. -/

namespace Sys2Proof.Machine

/-- R91: `at448` on numbers. -/
theorem at448_iff (s : State) : s.at448 = true ↔ s.bitcnt.toNat % 512 = 448 := by
  simp [State.at448, BitVec.toNat_eq, BitVec.extractLsb'_toNat]

theorem at448_eq_false_iff (s : State) : s.at448 = false ↔ ¬ s.bitcnt.toNat % 512 = 448 := by
  rw [← at448_iff]; simp

/-- R101: the three operations HOST can bring about, or none of them. -/
theorem host_cases (s : State) :
    (s.host.head? = some .rst ∧ s.current = .reset) ∨
    (s.host.head? = some .readDigest ∧ s.current = .outDigest) ∨
    (s.host.head? = some .readHex ∧ s.current = .outHex) ∨
    (s.undisturbed = true ∧ s.host.head? ≠ some .rst) := by
  unfold State.current State.undisturbed
  cases s.host.head? with
  | none => simp
  | some a => cases a <;> simp

/-- R193: the quarter `i[5:4]` on numbers. -/
theorem quarter_cases (i : BitVec 6) :
    (quarterOf i = 0 ∧ i < 16) ∨ (quarterOf i = 1 ∧ ¬ i < 16 ∧ i < 32) ∨
    (quarterOf i = 2 ∧ ¬ i < 16 ∧ ¬ i < 32 ∧ i < 48) ∨
    (quarterOf i = 3 ∧ ¬ i < 16 ∧ ¬ i < 32 ∧ ¬ i < 48) := by
  revert i; decide

/-- R160 to R164, R193: EN.ROUND, all four RND operations at once. -/
theorem execEnRound_eq (s : State) (he : s.est = .round) :
    execEnRound s = .next (roundStep (mixAt s.i s.regs) (wordIndexAt s.i) s) := by
  rcases quarter_cases s.i with ⟨h, h1⟩ | ⟨h, h1, h2⟩ | ⟨h, h1, h2, h3⟩ | ⟨h, h1, h2, h3⟩
  · simp only [execEnRound, execRndF, State.inRound, he, h, mixAt, wordIndexAt, if_pos h1,
      State.regs]
    simp
  · simp only [execEnRound, execRndG, State.inRound, he, h, mixAt, wordIndexAt, if_neg h1,
      if_pos h2, State.regs]
    simp
  · simp only [execEnRound, execRndH, State.inRound, he, h, mixAt, wordIndexAt, if_neg h1,
      if_neg h2, if_pos h3, State.regs]
    simp
  · simp only [execEnRound, execRndI, State.inRound, he, h, mixAt, wordIndexAt, if_neg h1,
      if_neg h2, if_neg h3, State.regs]
    simp

/-- Everything a step can do: RESET, a reading by HOST, or the operation of `est`. EN.FETCH is taken
apart by `execEnFetch_next`. -/
theorem step_cases {s t : State} (h : step s = .next t) :
    (s.host.head? = some .rst ∧ t = s.applyReset.advanceHost) ∨
    (s.undisturbed = false ∧ s.host.head? ≠ some .rst ∧
      (t = { s with dgRead := some s.dg, host := s.host.tail } ∨
       t = { s with hexRead := some s.hex, host := s.host.tail })) ∨
    (s.undisturbed = true ∧ s.host.head? ≠ some .rst ∧ ∃ v, t = v.advanceHost ∧
      ((s.est = .fetch ∧ execEnFetch s = .next v) ∨
       (s.est = .save ∧ v = { s with
          A0 := s.A, B0 := s.B, C0 := s.C, D0 := s.D, i := 0, est := .round }) ∨
       (s.est = .round ∧ v = roundStep (mixAt s.i s.regs) (wordIndexAt s.i) s) ∨
       (s.est = .chain ∧ v = { s with
          A := s.A + s.A0, B := s.B + s.B0, C := s.C + s.C0, D := s.D + s.D0, est := .fetch }) ∨
       ((s.est = .done ∨ s.est = .fault) ∧ v = s))) := by
  obtain ⟨u, hx, rfl⟩ := step_next h
  rcases host_cases s with ⟨hh, hc⟩ | ⟨hh, hc⟩ | ⟨hh, hc⟩ | ⟨hu, hr⟩
  · rw [hc] at hx
    obtain ⟨-, hx⟩ := whenSelected_next hx
    cases hx; exact .inl ⟨hh, rfl⟩
  · rw [hc] at hx; cases hx
    exact .inr (.inl ⟨by simp [State.undisturbed, hh], by simp [hh], .inl rfl⟩)
  · rw [hc] at hx; cases hx
    exact .inr (.inl ⟨by simp [State.undisturbed, hh], by simp [hh], .inr rfl⟩)
  · refine .inr (.inr ⟨hu, hr, u, rfl, ?_⟩)
    rw [current_of_undisturbed hu] at hx
    cases he : s.est <;> simp only [he] at hx
    · exact .inl ⟨rfl, hx⟩
    · obtain ⟨-, hx⟩ := whenSelected_next hx; cases hx; exact .inr (.inl ⟨rfl, rfl⟩)
    · rw [show exec .enRound s = execEnRound s from rfl, execEnRound_eq s he] at hx
      cases hx; exact .inr (.inr (.inl ⟨rfl, rfl⟩))
    · obtain ⟨-, hx⟩ := whenSelected_next hx
      cases hx; exact .inr (.inr (.inr (.inl ⟨rfl, rfl⟩)))
    · obtain ⟨-, hx⟩ := whenSelected_next hx
      cases hx; exact .inr (.inr (.inr (.inr ⟨.inl rfl, rfl⟩)))
    · obtain ⟨-, hx⟩ := whenSelected_next hx
      cases hx; exact .inr (.inr (.inr (.inr ⟨.inr rfl, rfl⟩)))

end Sys2Proof.Machine
end

