-- ==== Sys2Proof/Laws/PerInstr.lean ====
section
/-! SUPPORT. Family `RowMatch`, one lemma per constructor: the selector the encoder writes for a
well-formed operation meets the pattern of that operation's own row of the operation map (R100), and of no
row before it. The OUT operations have no pattern (R95). -/

namespace Sys2Proof.Laws.RowMatch

/-- R100: the row met by the selector of an operation is the operation's own. -/
def Statement (i : Instr) : Prop :=
  i.wellFormed = true →
    (rowOf (selectorOf i)).map OpRow.mnemonic =
      if (selectorOf i).format = .out then none else some (mnemonicOf i)

theorem pbStreamByte : Statement .pbStreamByte := by unfold Statement; decide

theorem pbStreamEos : Statement .pbStreamEos := by unfold Statement; decide

theorem pbStreamFail : Statement .pbStreamFail := by unfold Statement; decide

theorem pbPadzZero : Statement .pbPadzZero := by unfold Statement; decide

theorem pbPadzLen : Statement .pbPadzLen := by unfold Statement; decide

theorem pbLenlo : Statement .pbLenlo := by unfold Statement; decide

theorem pbLenhi : Statement .pbLenhi := by unfold Statement; decide

theorem pbExh : Statement .pbExh := by unfold Statement; decide

theorem baB0 (n : BitVec 4) : Statement (.baB0 n) := by
  unfold Statement; revert n; decide

theorem baB1 (n : BitVec 4) : Statement (.baB1 n) := by
  unfold Statement; revert n; decide

theorem baB2 (n : BitVec 4) : Statement (.baB2 n) := by
  unfold Statement; revert n; decide

theorem baB3 (n : BitVec 4) : Statement (.baB3 n) := by
  unfold Statement; revert n; decide

theorem enFetch : Statement .enFetch := by unfold Statement; decide

theorem enSave : Statement .enSave := by unfold Statement; decide

theorem enRound : Statement .enRound := by unfold Statement; decide

theorem enChain : Statement .enChain := by unfold Statement; decide

theorem enDone : Statement .enDone := by unfold Statement; decide

theorem enFault : Statement .enFault := by unfold Statement; decide

theorem rndF (n : BitVec 6) : Statement (.rndF n) := by
  unfold Statement; revert n; decide

theorem rndG (n : BitVec 6) : Statement (.rndG n) := by
  unfold Statement; revert n; decide

theorem rndH (n : BitVec 6) : Statement (.rndH n) := by
  unfold Statement; revert n; decide

theorem rndI (n : BitVec 6) : Statement (.rndI n) := by
  unfold Statement; revert n; decide

theorem outDigest : Statement .outDigest := by unfold Statement; decide

theorem outHex : Statement .outHex := by unfold Statement; decide

theorem reset : Statement .reset := by unfold Statement; decide

end Sys2Proof.Laws.RowMatch
end

