-- ==== Sys2Proof/Laws/Source.lean ====
section
/-! SUPPORT. The small lemmas of the source (R62): its next answer, the source after a pull, and runs of
answers taken from it. -/

namespace Sys2Proof.Machine

@[simp] theorem Source.head?_silent : Source.silent.head? = none := rfl

@[simp] theorem Source.head?_endless (k n : Nat) :
    (Source.endless k n).head? = some (.byte (Config.endlessByte k n)) := rfl

@[simp] theorem Source.head?_answer (a : SrcAnswer) (r : Source) :
    (Source.answer a r).head? = some a := rfl

@[simp] theorem Source.rest_silent : Source.silent.rest = .silent := rfl

@[simp] theorem Source.rest_endless (k n : Nat) :
    (Source.endless k n).rest = .endless k (n + 1) := rfl

@[simp] theorem Source.rest_answer (a : SrcAnswer) (r : Source) : (Source.answer a r).rest = r := rfl

@[simp] theorem Source.ofAnswers_nil (r : Source) : Source.ofAnswers [] r = r := rfl

@[simp] theorem Source.ofAnswers_cons (a : SrcAnswer) (l : List SrcAnswer) (r : Source) :
    Source.ofAnswers (a :: l) r = .answer a (.ofAnswers l r) := rfl

@[simp] theorem Source.gives_nil (r r' : Source) : r.gives [] r' ↔ r = r' := Iff.rfl

@[simp] theorem Source.gives_cons (r r' : Source) (a : SrcAnswer) (l : List SrcAnswer) :
    r.gives (a :: l) r' ↔ r.head? = some a ∧ r.rest.gives l r' := Iff.rfl

/-- Only the silent source gives no answer. -/
theorem Source.head?_eq_none {r : Source} : r.head? = none ↔ r = .silent := by
  cases r <;> simp

/-- What `ofAnswers` puts before a source is what is taken from it first. -/
theorem Source.gives_ofAnswers (l : List SrcAnswer) (r : Source) : (Source.ofAnswers l r).gives l r := by
  induction l with
  | nil => rfl
  | cons a l ih => exact ⟨rfl, ih⟩

/-- Taking two runs of answers one after the other. -/
theorem Source.gives_append {r r' : Source} {l m : List SrcAnswer} :
    r.gives (l ++ m) r' ↔ ∃ q, r.gives l q ∧ q.gives m r' := by
  induction l generalizing r with
  | nil => simp
  | cons a l ih => simp [ih, and_assoc]

/-- R62 (c): an endless source answers every pull with a byte, and stays the same endless source. -/
theorem Source.endless_gives (k n j : Nat) :
    (Source.endless k n).gives ((List.range' n j).map fun i => .byte (Config.endlessByte k i))
      (.endless k (n + j)) := by
  induction j generalizing n with
  | zero => rfl
  | succ j ih =>
    refine ⟨rfl, ?_⟩
    rw [Nat.add_comm j 1, ← Nat.add_assoc]
    exact ih (n + 1)

end Sys2Proof.Machine
end

