-- ==== Sys2Proof/Tests/Slice0.lean ====
section
/-! SUPPORT. The model's own tests: ill-formed operations refused, selector words written out from the
spec's encodings, one-step tests whose expected values stand in spec/95_test_vectors.md, and a witness for
the hypotheses of every statement that has some. -/

namespace Sys2Proof.Tests

open Sys2Proof Sys2Proof.Machine

/-! ### Helpers -/

/-- The next state, where there is one. -/
def nextOf : Out → Option State
  | .next t => some t
  | .fault _ | .refused _ => none

/-- The refusal, where there is one. -/
def refusalOf : Out → Option Refusal
  | .refused r => some r
  | .next _ | .fault _ => none

/-- One field of the state an operation leaves. -/
def after {α : Type} (i : Instr) (s : State) (f : State → α) : Option α := (nextOf (exec i s)).map f

/-- A source that gives these answers and no more. -/
def source (answers : List SrcAnswer) : Source := .ofAnswers answers .silent

/-- A Reader in a phase. -/
def reader (p : Phase) (bitcnt origlen : Count) (sub : BitVec 2) (src : List SrcAnswer) : State :=
  { State.reset with phase := p, bitcnt := bitcnt, origlen := origlen, sub := sub, src := source src }

/-- Block assembly at `pos = w, k` with `M[w] = v`, the Reader still streaming. -/
def assembly (w : BitVec 4) (k : BitVec 2) (v : Word) (src : List SrcAnswer) : State :=
  { State.reset with wordpos := w, bytepos := k, src := source src }.writeBlk w v

/-- Round `n` on the registers, with `M[g] = m`. -/
def atRound (n : BitVec 6) (g : BitVec 4) (m a b c d : Word) : State :=
  { State.reset with est := .round, i := n, A := a, B := b, C := c, D := d }.writeBlk g m

/-- The Engine in a state of the sequencer. -/
def engine (e : Est) (a b c d : Word) : State :=
  { State.reset with est := e, A := a, B := b, C := c, D := d }

/-- A run that has exhausted its source. -/
def exhausted : State :=
  { State.reset with phase := .exhausted, bitcnt := 0x1C0 }

/-- The failure information of the tests. -/
def err : SrcErr := Config.srcErrSample

/-! ### Well-formedness: each check refuses an ill-formed term (R93) -/

theorem test_wf_rndF : (Instr.rndF 15).wellFormed = true ∧ (Instr.rndF 16).wellFormed = false := by
  decide
theorem test_wf_rndG : (Instr.rndG 31).wellFormed = true ∧ (Instr.rndG 15).wellFormed = false ∧
    (Instr.rndG 32).wellFormed = false := by decide
theorem test_wf_rndH : (Instr.rndH 47).wellFormed = true ∧ (Instr.rndH 31).wellFormed = false ∧
    (Instr.rndH 48).wellFormed = false := by decide
theorem test_wf_rndI : (Instr.rndI 48).wellFormed = true ∧ (Instr.rndI 47).wellFormed = false := by
  decide

/-! ### Decoding: every row of R100, its selector written out bit by bit -/

theorem test_decode_pb_streaming :
    decodeSelector ⟨.pb, 0b000000⟩ = .ok .pbStreamByte ∧
    decodeSelector ⟨.pb, 0b000001⟩ = .ok .pbStreamByte ∧
    decodeSelector ⟨.pb, 0b000010⟩ = .ok .pbStreamEos ∧
    decodeSelector ⟨.pb, 0b000011⟩ = .ok .pbStreamEos ∧
    decodeSelector ⟨.pb, 0b000100⟩ = .ok .pbStreamFail ∧
    decodeSelector ⟨.pb, 0b000101⟩ = .ok .pbStreamFail := by decide
theorem test_decode_pb_padding :
    decodeSelector ⟨.pb, 0b001000⟩ = .ok .pbPadzZero ∧
    decodeSelector ⟨.pb, 0b001110⟩ = .ok .pbPadzZero ∧
    decodeSelector ⟨.pb, 0b001001⟩ = .ok .pbPadzLen ∧
    decodeSelector ⟨.pb, 0b001111⟩ = .ok .pbPadzLen ∧
    decodeSelector ⟨.pb, 0b010101⟩ = .ok .pbLenlo ∧
    decodeSelector ⟨.pb, 0b011010⟩ = .ok .pbLenhi ∧
    decodeSelector ⟨.pb, 0b100111⟩ = .ok .pbExh := by decide
theorem test_decode_ba :
    decodeSelector ⟨.ba, 0b010100⟩ = .ok (.baB0 5) ∧
    decodeSelector ⟨.ba, 0b001001⟩ = .ok (.baB1 2) ∧
    decodeSelector ⟨.ba, 0b010110⟩ = .ok (.baB2 5) ∧
    decodeSelector ⟨.ba, 0b111111⟩ = .ok (.baB3 15) := by decide
theorem test_decode_en :
    decodeSelector ⟨.en, 0b000⟩ = .ok .enFetch ∧ decodeSelector ⟨.en, 0b001⟩ = .ok .enSave ∧
    decodeSelector ⟨.en, 0b010⟩ = .ok .enRound ∧ decodeSelector ⟨.en, 0b011⟩ = .ok .enChain ∧
    decodeSelector ⟨.en, 0b100⟩ = .ok .enDone ∧ decodeSelector ⟨.en, 0b101⟩ = .ok .enFault := by
  decide
theorem test_decode_rnd :
    decodeSelector ⟨.rnd, 0b001111⟩ = .ok (.rndF 15) ∧
    decodeSelector ⟨.rnd, 0b010100⟩ = .ok (.rndG 20) ∧
    decodeSelector ⟨.rnd, 0b100101⟩ = .ok (.rndH 37) ∧
    decodeSelector ⟨.rnd, 0b111111⟩ = .ok (.rndI 63) := by decide
theorem test_decode_out_h :
    decodeSelector ⟨.out, 0⟩ = .ok .outDigest ∧ decodeSelector ⟨.out, 1⟩ = .ok .outHex ∧
    decodeSelector ⟨.h, 1⟩ = .ok .reset := by decide
/-- R107: the reserved codes, and what is wider than its selector, are refused by name. -/
theorem test_decode_refused :
    decodeSelector ⟨.pb, 0b101000⟩ = .error .reservedPhase ∧
    decodeSelector ⟨.pb, 0b000110⟩ = .error .reservedSrcKind ∧
    decodeSelector ⟨.en, 0b110⟩ = .error .reservedEst ∧
    decodeSelector ⟨.en, 0b1000⟩ = .error .selectorTooWide ∧
    decodeSelector ⟨.h, 0⟩ = .error .resetNotAsserted ∧
    decodeBytes [0, 7] = .error .unknownFormat ∧ decodeBytes [0] = .error .tooShort ∧
    decodeBytes [64, 4] = .error .selectorTooWide ∧
    decodeBytes [64, 0] = .error .numberTooWide := by decide

/-- R100, R112: no selector of a format meets the patterns of two rows of the operation map. -/
theorem map_rows_do_not_overlap : opRows.Pairwise fun r r' =>
    r.format = r'.format → ∀ b : BitVec 6, ¬(b &&& r.mask = r.value ∧ b &&& r'.mask = r'.value) := by
  unfold opRows readerRows engineRows; decide

/-- Table words, and the step at the state they are placed in, from the state after RESET. -/
theorem test_table_words :
    decodeTableWord 8 1 = some .enSave ∧ decodeTableWord 8 9 = some .pbPadzLen ∧
    decodeTableWord 8 48 = some (.rndI 48) ∧
    decodeTableWord 16 0x0216 = some (.baB2 5) ∧ decodeTableWord 16 0x0601 = some .reset ∧
    decodeTableWord 0 0 = some .outDigest := by decide
theorem test_fetch_word :
    (State.reset.withFetchWord 8 1).current = .enSave ∧
    (nextOf (step (State.reset.withFetchWord 8 1))).map (·.est) = some .round ∧
    (nextOf (step (State.reset.withFetchWord 8 9))).map (·.phase) = some .lengthLow ∧
    (nextOf (step (State.reset.withFetchWord 8 48))).map (·.i) = some 49 := by decide

/-! ### Operand forms (R10, R98, R99, R166): the vectors of 95_test_vectors.md 2.3 -/

theorem test_rotl32 :
    rotl32 0x80000000 1 = 1 ∧ rotl32 1 31 = 0x80000000 ∧ rotl32 0x12345678 4 = 0x23456781 ∧
    rotl32 0x12345678 16 = 0x56781234 ∧ rotl32 0xD76AA4F7 7 = 0xB5527BEB ∧
    rotl32 0x12345678 0 = 0x12345678 := by decide
theorem test_word_index :
    wordIndexAt 17 = 6 ∧ wordIndexAt 31 = 12 ∧ wordIndexAt 33 = 8 ∧ wordIndexAt 47 = 2 ∧
    wordIndexAt 49 = 7 ∧ wordIndexAt 63 = 9 := by decide
theorem test_hexdigit : hexdigit 9 = '9' ∧ hexdigit 10 = 'a' ∧ hexdigit 15 = 'f' ∧
    hexdigitCode 0xd = 0x64 ∧ hexdigitCode 4 = 0x34 := by decide

/-! ### Reader byte production: vectors PB1 to PB27 -/

/-- PB4: the counter wraps. -/
theorem test_pbStreamByte_wraps :
    after .pbStreamByte (reader .streaming 0xFFFFFFFFFFFFFFF8 0 0 [.byte 0])
      (fun t => (t.answer, t.bitcnt, t.src)) = some (some (.byte 0), 0, .silent) := by decide
/-- PB3: a real byte that looks like the terminator, `at448` not looked at. -/
theorem test_pbStreamByte_at448 :
    after .pbStreamByte (reader .streaming 0x1C0 0 0 [.byte 0x80])
      (fun t => (t.bitcnt, t.phase)) = some (0x1C8, .streaming) := by decide
/-- R62 (c): an endless source answers with its next byte and goes on. -/
theorem test_pbStreamByte_endless :
    after .pbStreamByte (State.reset.connect (.endless 0 0)) (fun t => (t.answer, t.src)) =
      some (some (.byte (Config.endlessByte 0 0)), .endless 0 1) := rfl
/-- PB6: the old count is frozen. -/
theorem test_pbStreamEos :
    after .pbStreamEos (reader .streaming 0x18 0 0 [.eos])
      (fun t => (t.answer, t.origlen, t.bitcnt, t.phase)) =
      some (some (.byte 0x80), 0x18, 0x20, .paddingZeroes) := by decide
/-- PB9. -/
theorem test_pbStreamEos_wraps :
    after .pbStreamEos (reader .streaming 0xFFFFFFFFFFFFFFF8 0 0 [.eos])
      (fun t => (t.origlen, t.bitcnt)) = some (0xFFFFFFFFFFFFFFF8, 0) := by decide
/-- PB10. -/
theorem test_pbStreamFail :
    after .pbStreamFail (reader .streaming 0x10 0 0 [.fail err])
      (fun t => (t.answer, t.est, t.faultCode, t.errInfo, t.bitcnt)) =
      some (some (.sourceReadError err), .fault, .sourceReadError, some err, 0x10) := rfl
/-- PB13. -/
theorem test_pbPadzZero :
    after .pbPadzZero (reader .paddingZeroes 0x1B8 0 0 [.byte 1])
      (fun t => (t.answer, t.bitcnt, t.at448, t.src)) =
      some (some (.byte 0), 0x1C0, true, source [.byte 1]) := by decide
/-- PB15: `bitcnt` does not move. -/
theorem test_pbPadzLen :
    after .pbPadzLen (reader .paddingZeroes 0x3C0 0x1C0 0 [])
      (fun t => (t.answer, t.bitcnt, t.phase, t.sub)) =
      some (some (.byte 0xC0), 0x3C0, .lengthLow, 1) := by decide
/-- PB18. -/
theorem test_pbLenlo :
    after .pbLenlo (reader .lengthLow 0x1C0 0x123456788 1 []) (fun t => (t.answer, t.sub)) =
      some (some (.byte 0x67), 2) := by decide
/-- PB20. -/
theorem test_pbLenlo_last :
    after .pbLenlo (reader .lengthLow 0x1C0 0x123456788 3 [])
      (fun t => (t.answer, t.sub, t.phase)) = some (some (.byte 0x23), 0, .lengthHigh) := by decide
/-- PB21. -/
theorem test_pbLenhi :
    after .pbLenhi (reader .lengthHigh 0x1C0 0x123456788 0 []) (fun t => (t.answer, t.sub)) =
      some (some (.byte 1), 1) := by decide
/-- PB25. -/
theorem test_pbLenhi_last :
    after .pbLenhi (reader .lengthHigh 0x1C0 0xFEDCBA9876543210 3 [])
      (fun t => (t.answer, t.sub, t.phase, t.eod)) =
      some (some (.byte 0xFE), 0, .exhausted, true) := by decide
/-- PB27: `Exhausted` is absorbing and SRC is not pulled. -/
theorem test_pbExh :
    after .pbExh { exhausted with src := source [.byte 1] } id =
      some { exhausted with src := source [.byte 1], answer := some .endOfData } := by decide

/-! ### Block assembly: vectors BA1 to BA11 -/

/-- BA5: the old word is replaced. -/
theorem test_baB0 :
    after (.baB0 5) (assembly 5 0 0xDEADBEEF [.byte 1]) (fun t => (t.readBlk 5, t.pos, t.est)) =
      some (0x00000001, 21, .fetch) := by decide
/-- BA9: EndOfData ends the run. -/
theorem test_baB0_endOfData :
    after (.baB0 0) exhausted (fun t => (t.est, t.pos, t.digestValid, t.busy, t.M)) =
      some (.done, 0, true, false, exhausted.M) := by decide
/-- BA2. -/
theorem test_baB1 :
    after (.baB1 0) (assembly 0 1 0x61 [.byte 0x62]) (fun t => (t.readBlk 0, t.pos)) =
      some (0x00006261, 2) := by decide
/-- BA10: the read failure is precise. -/
theorem test_baB1_fail :
    after (.baB1 2) (assembly 2 1 0x41 [.fail err])
      (fun t => (t.est, t.errInfo, t.pos, t.readBlk 2)) = some (.fault, some err, 9, 0x41) := rfl
/-- BA6. -/
theorem test_baB2 :
    after (.baB2 5) (assembly 5 2 0x0000FF01 [.byte 0xFF]) (fun t => (t.readBlk 5, t.pos)) =
      some (0x00FFFF01, 23) := by decide
/-- BA11: refused. -/
theorem test_baB2_endOfData :
    refusalOf (exec (.baB2 0) { exhausted with bytepos := 2 }) = some .endOfDataInsideWord := by
  decide
/-- BA4. -/
theorem test_baB3 :
    after (.baB3 0) (assembly 0 3 0x00636261 [.eos]) (fun t => (t.readBlk 0, t.pos, t.est)) =
      some (0x80636261, 4, .fetch) := by decide
/-- BA8: the block is complete. -/
theorem test_baB3_lastWord :
    after (.baB3 15) (assembly 15 3 0x00ADBEEF [.byte 0xDE])
      (fun t => (t.readBlk 15, t.pos, t.est)) = some (0xDEADBEEF, 0, .save) := by decide

/-! ### Sequencer: vectors EN1 to EN7 -/

/-- EN1. -/
theorem test_enFetch :
    after .enFetch (assembly 0 3 0x00636261 [.byte 0x80]) (fun t => (t.readBlk 0, t.pos)) =
      some (0x80636261, 4) := by decide
/-- EN2. -/
theorem test_enSave :
    after .enSave { engine .save 0x67452301 0xEFCDAB89 0x98BADCFE 0x10325476 with i := 63 }
      (fun t => (t.A0, t.B0, t.C0, t.D0, t.i, t.est)) =
      some (0x67452301, 0xEFCDAB89, 0x98BADCFE, 0x10325476, 0, .round) := by decide
/-- EN3: round 20 is RND.G. -/
theorem test_enRound :
    (nextOf (exec .enRound (atRound 20 5 3 1 2 3 4)) =
      nextOf (exec (.rndG 20) (atRound 20 5 3 1 2 3 4))) ∧
    after .enRound (atRound 20 5 3 1 2 3 4) (·.i) = some 21 := by decide
/-- EN4. -/
theorem test_enChain :
    after .enChain { engine .chain 0x7246FAD3 0x14E45506 0xFF4EA3EB 0x6E10A476 with
        A0 := 0x67452301, B0 := 0xEFCDAB89, C0 := 0x98BADCFE, D0 := 0x10325476 }
      (fun t => (t.A, t.B, t.C, t.D, t.est)) =
      some (0xD98C1DD4, 0x04B2008F, 0x980980E9, 0x7E42F8EC, .fetch) := by decide
/-- EN5: each sum wraps on its own. -/
theorem test_enChain_wraps :
    after .enChain { engine .chain 0xFFFFFFFF 1 0x80000000 0 with
        A0 := 1, B0 := 0xFFFFFFFF, C0 := 0x80000000, D0 := 0 }
      (fun t => (t.A, t.B, t.C, t.D)) = some (0, 0, 0, 0) := by decide
/-- EN6. -/
theorem test_enDone :
    after .enDone (engine .done 1 2 3 4) (fun t => (t.A, t.digestValid, t.busy, t.faultFlag)) =
      some (1, true, false, false) := by decide
/-- EN7. -/
theorem test_enFault :
    after .enFault { engine .fault 1 2 3 4 with faultCode := .sourceReadError }
      (fun t => (t.faultCode, t.faultFlag, t.digestValid, t.busy)) =
      some (.sourceReadError, true, false, false) := by decide

/-! ### Rounds: vectors of 95_test_vectors.md 2.3 -/

/-- First round of "abc". -/
theorem test_rndF :
    after (.rndF 0) (atRound 0 0 0x80636261 0x67452301 0xEFCDAB89 0x98BADCFE 0x10325476)
      (fun t => (t.A, t.B, t.C, t.D, t.i)) =
      some (0x10325476, 0xD6D117B4, 0xEFCDAB89, 0x98BADCFE, 1) := by decide
/-- Last of quarter 0; carries out of bit 31 dropped. -/
theorem test_rndF_last :
    after (.rndF 15) (atRound 15 15 0x80000000 0x80000000 0x80000000 0x80000000 0x80000000)
      (fun t => (t.A, t.B, t.C, t.D, t.i)) =
      some (0x80000000, 0x88726D02, 0x80000000, 0x80000000, 16) := by decide
theorem test_rndG :
    after (.rndG 16) (atRound 16 1 0x101 0x11111111 0x0F0F0F0F 0x33333333 0x55555555)
      (fun t => (t.A, t.B, t.C, t.D, t.i)) =
      some (0x55555555, 0xD9DAE274, 0x0F0F0F0F, 0x33333333, 17) := by decide
/-- Last of quarter 1. -/
theorem test_rndG_last :
    after (.rndG 31) (atRound 31 12 4 0 1 2 3) (fun t => (t.A, t.B, t.C, t.D)) =
      some (3, 0xC8F8D2A5, 1, 2) := by decide
theorem test_rndH :
    after (.rndH 32) (atRound 32 5 0x05050505 0xDEADBEEF 0xAAAAAAAA 0xCCCCCCCC 0xF0F0F0F0)
      (fun t => (t.A, t.B, t.C, t.D)) =
      some (0xF0F0F0F0, 0x4EE3E771, 0xAAAAAAAA, 0xCCCCCCCC) := by decide
/-- Last of quarter 2. -/
theorem test_rndH_last :
    after (.rndH 47) (atRound 47 2 4 0 1 2 3) (fun t => (t.A, t.B, t.C, t.D, t.i)) =
      some (3, 0x34E2562C, 1, 2, 48) := by decide
theorem test_rndI :
    after (.rndI 48) (atRound 48 0 0xCAFE0000 0x01234567 0x89ABCDEF 0xFEDCBA98 0x76543210)
      (fun t => (t.A, t.B, t.C, t.D, t.est)) =
      some (0x76543210, 0x7A23967C, 0x89ABCDEF, 0xFEDCBA98, .round) := by decide
/-- Last round. -/
theorem test_rndI_last :
    after (.rndI 63) (atRound 63 9 1 0xFFFFFFFF 0 0xFFFFFFFF 0)
      (fun t => (t.A, t.B, t.C, t.D, t.i, t.est)) =
      some (0, 0x723D70DA, 0, 0xFFFFFFFF, 63, .chain) := by decide

/-! ### Outputs and RESET: vectors OUT1 to OUT4, RS1 to RS4 -/

/-- OUT3. -/
theorem test_outDigest :
    after .outDigest (engine .done 0x00000001 0x0A0B0C0D 0xFFFFFFFF 0) (·.dgRead) =
      some (some [1, 0, 0, 0, 0x0d, 0x0c, 0x0b, 0x0a, 0xff, 0xff, 0xff, 0xff, 0, 0, 0, 0]) := by
  decide
/-- OUT1. -/
theorem test_outHex :
    after .outHex (engine .done 0xD98C1DD4 0x04B2008F 0x980980E9 0x7E42F8EC) (·.hexRead) =
      some (some "d41d8cd98f00b204e9800998ecf8427e".toList) := by decide
/-- R84: the `digest` and `hex` signals, on the registers of OUT1. -/
theorem test_output_signals :
    (engine .done 0xD98C1DD4 2 3 0x7E42F8EC).digestBus.extractLsb' 0 32 = 0xD98C1DD4 ∧
    (engine .done 0xD98C1DD4 2 3 0x7E42F8EC).digestBus.extractLsb' 96 32 = 0x7E42F8EC ∧
    (engine .done 0xD98C1DD4 2 3 0x7E42F8EC).hexBus.extractLsb' 0 16 = 0x3464 ∧
    (engine .done 0xD98C1DD4 2 3 0x7E42F8EC).hexBus.extractLsb' 248 8 = 0x65 := by decide
/-- RS2. -/
theorem test_reset_after_fault :
    after .reset { assembly 2 1 0x41 [.eos] with
        est := .fault, faultCode := .sourceReadError, errInfo := some err, bitcnt := 0x48,
        host := [.rst] }
      (fun t => (t.est, t.bitcnt, t.pos, t.errInfo.isNone, t.src)) =
      some (.fetch, 0, 0, true, source [.eos]) := by decide
/-- RS4: RESET ends the wait for an answer. -/
theorem test_reset_while_waiting :
    (nextOf (step { State.reset with host := [.rst], wordpos := 3, bitcnt := 96 })) =
      some State.reset := by decide

/-! ### The reference functions: one block, and V1 -/

/-- 95_test_vectors.md 4.3, `M[j] = j`. -/
theorem test_compress :
    compress (Vector.ofFn fun j => BitVec.ofNat 32 j.val) Regs.init =
      ⟨0x725E2F24, 0x52694655, 0x9FD0A13C, 0xAFAD83D6⟩ := by decide +kernel
/-- V1, V4: the registers of the empty message and of "abc". -/
theorem test_md5Regs_empty : md5Regs [] = ⟨0xD98C1DD4, 0x04B2008F, 0x980980E9, 0x7E42F8EC⟩ := by
  decide +kernel
theorem test_md5Regs_abc :
    md5Regs [0x61, 0x62, 0x63] = ⟨0x98500190, 0xB04FD23C, 0x7D3F96D6, 0x727FE128⟩ := by
  decide +kernel
/-- 95_test_vectors.md part 3: `L = 55`, `L = 56`. -/
theorem test_padding_counts :
    zeroCount 55 = 0 ∧ blockCount 55 = 1 ∧ zeroCount 56 = 63 ∧ blockCount 56 = 2 ∧
    zeroCount 0 = 55 ∧ blockCount 64 = 2 := by decide

/-! ### Witnesses: states and operands that meet the hypotheses of each statement, clause by clause -/

theorem witness_ReservedCodesAreRefused :
    (5#3 ≤ 5#3 ∧ 5#3 ≤ 7#3) ∧ (6#3 ≤ 6#3 ∧ 6#3 ≤ 7#3) ∧
    (reader .streaming 0 0 0 [.reserved]).phase = .streaming ∧
    (reader .streaming 0 0 0 [.reserved]).src.head? = some .reserved := by decide

theorem witness_DecodeInvertsEncode :
    (Instr.rndF 0).wellFormed = true ∧ (Instr.rndG 16).wellFormed = true ∧
    (Instr.rndH 47).wellFormed = true ∧ (Instr.rndI 63).wellFormed = true ∧
    (Instr.baB3 15).wellFormed = true ∧ Instr.outHex.wellFormed = true := by decide

theorem witness_DecodeFollowsTheMap :
    (Format.pb ≠ .out ∧ ¬(Format.pb = .pb ∧ 40#6 ≤ 39#6)) ∧
    (Format.en ≠ .out ∧ 7#6 < 8#6) ∧ (Format.h ≠ .out ∧ 1#6 < 2#6) ∧
    decodeSelector ⟨.pb, 39⟩ = .ok .pbExh ∧ decodeSelector ⟨.rnd, 63⟩ = .ok (.rndI 63) := by decide

theorem witness_StepRunsDecodedOperation :
    decodeSelector State.reset.selector = .ok .enFetch ∧
    decodeSelector { State.reset with host := [.rst] }.selector = .ok .reset ∧
    decodeSelector { State.reset with host := [.readHex] }.selector = .ok .outHex ∧
    decodeSelector (engine .fault 0 0 0 0).selector = .ok .enFault := by decide

theorem witness_FetchRunsDecodedAssembly :
    (assembly 15 3 0 []).est = .fetch ∧
    decodeSelector ⟨.ba, (assembly 15 3 0 []).pos⟩ = .ok (.baB3 15) := by decide

theorem witness_RoundRunsDecodedRound :
    (atRound 63 9 0 0 0 0 0).est = .round ∧
    decodeSelector ⟨.rnd, (atRound 63 9 0 0 0 0 0).i⟩ = .ok (.rndI 63) := by decide

/-- Each answer of SRC, a phase that does not pull, and both directions of the last clause: an answered
pull has a `psel`, an unanswered one has none. -/
theorem witness_ByteRequestRunsDecodedOperation :
    ((reader .streaming 0 0 0 [.fail err]).psel = some 0b000100 ∧
      decodeSelector ⟨.pb, 0b000100⟩ = .ok .pbStreamFail) ∧
    (exhausted.psel = some 0b100001 ∧ decodeSelector ⟨.pb, 0b100001⟩ = .ok .pbExh) ∧
    ((reader .streaming 0 0 0 [.eos]).src.head? ≠ none ∧
      (reader .streaming 0 0 0 [.eos]).psel = some 0b000010) ∧
    (State.reset.phase = .streaming ∧ State.reset.src.head? = none ∧ State.reset.psel = none) := by
  decide

theorem witness_UnansweredPullHoldsTheCore :
    (State.reset.est = .fetch ∧ State.reset.phase = .streaming ∧ State.reset.src.head? = none ∧
      State.reset.undisturbed = true) ∧
    { State.reset with host := [.rst] }.host.head? = some .rst := by decide

theorem witness_StreamByteCountsAndDelivers :
    (reader .streaming 0xFFFFFFFFFFFFFFF8 0 0 [.byte 0xFF]).phase = .streaming ∧
    (reader .streaming 0xFFFFFFFFFFFFFFF8 0 0 [.byte 0xFF]).src.head? = some (.byte 0xFF) := by decide

theorem witness_StreamEosFreezesLength :
    (reader .streaming 0x18 0 0 [.eos]).phase = .streaming ∧
    (reader .streaming 0x18 0 0 [.eos]).src.head? = some .eos := by decide

theorem witness_StreamFailTakesTheFault :
    (reader .streaming 0x10 0 0 [.fail err]).phase = .streaming ∧
    (reader .streaming 0x10 0 0 [.fail err]).src.head? = some (.fail err) := ⟨rfl, rfl⟩

theorem witness_PaddingZeroCounts :
    (reader .paddingZeroes 0x1B8 0 0 []).phase = .paddingZeroes ∧
    (reader .paddingZeroes 0x1B8 0 0 []).bitcnt.toNat % 512 ≠ 448 ∧
    (reader .paddingZeroes 0x1C8 0 0 []).bitcnt.toNat % 512 ≠ 448 := by decide

theorem witness_PaddingReachesTheLength :
    (reader .paddingZeroes 0x3C0 0x1C0 0 []).phase = .paddingZeroes ∧
    (reader .paddingZeroes 0x3C0 0x1C0 0 []).bitcnt.toNat % 512 = 448 := by decide

theorem witness_LengthLowEmitsNextByte :
    (reader .lengthLow 0x1C0 8 3 []).phase = .lengthLow := by decide

theorem witness_LengthHighEmitsNextByte :
    (reader .lengthHigh 0x1C0 8 3 []).phase = .lengthHigh := by decide

theorem witness_ExhaustedSignalsEndOfData : exhausted.phase = .exhausted := by decide

theorem witness_ReaderOpsLeaveTheEngine :
    (selectorOf .pbExh).format = .pb ∧ (selectorOf .pbStreamFail).format = .pb ∧
    (nextOf (exec .pbExh exhausted)).isSome = true ∧
    (nextOf (exec .pbStreamFail (reader .streaming 0 0 0 [.fail err]))).isSome = true := by decide

/-- The three answers of the byte request, at the first and at the last word. -/
theorem witness_FirstByteReplacesTheWord :
    ((assembly 15 0 1 [.byte 2]).est = .fetch ∧ (assembly 15 0 1 [.byte 2]).wordpos = 15 ∧
      (assembly 15 0 1 [.byte 2]).bytepos = 0 ∧
      (nextOf (getByte (assembly 15 0 1 [.byte 2]))).map (·.answer) = some (some (.byte 2))) ∧
    (exhausted.est = .fetch ∧ exhausted.wordpos = 0 ∧ exhausted.bytepos = 0 ∧
      (nextOf (getByte exhausted)).map (·.answer) = some (some .endOfData)) ∧
    (nextOf (getByte (assembly 0 0 1 [.fail err]))).map (·.answer) =
      some (some (.sourceReadError err)) := ⟨by decide, by decide, rfl⟩

theorem witness_MiddleBytesAreOredIn :
    ((assembly 15 1 1 [.byte 2]).est = .fetch ∧ (assembly 15 1 1 [.byte 2]).wordpos = 15 ∧
      (assembly 15 1 1 [.byte 2]).bytepos = 1 ∧
      (nextOf (getByte (assembly 15 1 1 [.byte 2]))).map (·.answer) = some (some (.byte 2))) ∧
    ((assembly 0 2 1 [.eos]).bytepos = 2 ∧
      (nextOf (getByte (assembly 0 2 1 [.eos]))).map (·.answer) = some (some (.byte 0x80))) ∧
    ({ exhausted with bytepos := 1 }.est = .fetch ∧
      (nextOf (getByte { exhausted with bytepos := 1 })).map (·.answer) =
        some (some .endOfData)) ∧
    (nextOf (getByte (assembly 0 2 1 [.fail err]))).map (·.answer) =
      some (some (.sourceReadError err)) := ⟨by decide, by decide, by decide, rfl⟩

theorem witness_FourthByteCompletesTheWord :
    ((assembly 15 3 1 [.byte 2]).est = .fetch ∧ (assembly 15 3 1 [.byte 2]).wordpos = 15 ∧
      (assembly 15 3 1 [.byte 2]).bytepos = 3 ∧
      (nextOf (getByte (assembly 15 3 1 [.byte 2]))).map (·.answer) = some (some (.byte 2))) ∧
    ((assembly 14 3 1 [.byte 2]).wordpos = 14 ∧
      (nextOf (getByte (assembly 14 3 1 [.byte 2]))).map (·.answer) = some (some (.byte 2))) ∧
    (nextOf (getByte { exhausted with bytepos := 3 })).map (·.answer) = some (some .endOfData) ∧
    (nextOf (getByte (assembly 0 3 1 [.fail err]))).map (·.answer) =
      some (some (.sourceReadError err)) := ⟨by decide, by decide, by decide, rfl⟩

/-- All five phases that can produce a byte, at each byte position. -/
theorem witness_AssemblyStepCompletes :
    (assembly 15 3 1 [.byte 2]).est = .fetch ∧
    (assembly 0 0 1 [.byte 2]).nextByte = some 2 ∧
    (assembly 0 1 1 [.eos]).nextByte = some 0x80 ∧
    { reader .paddingZeroes 0x1C0 8 0 [] with wordpos := 14 }.nextByte = some 8 ∧
    { reader .lengthLow 0x1C0 0x800 1 [] with wordpos := 14, bytepos := 1 }.nextByte = some 8 ∧
    { reader .lengthHigh 0x1C0 8 2 [] with wordpos := 15, bytepos := 2 }.nextByte = some 0 := by
  decide

theorem witness_AssemblyStoresOnlyItsLane :
    (after (.baB0 5) (assembly 5 0 1 [.byte 2]) (·.est) = some .fetch ∧
      (24#6).extractLsb' 2 4 ≠ 5#4) ∧
    (after (.baB1 5) (assembly 5 1 1 [.byte 2]) (·.est) = some .fetch ∧ 20#6 ≠ 5#4 ++ 1#2) ∧
    (after (.baB2 5) (assembly 5 2 1 [.byte 2]) (·.est) = some .fetch ∧ 23#6 ≠ 5#4 ++ 2#2) ∧
    (after (.baB3 5) (assembly 5 3 1 [.byte 2]) (·.est) = some .fetch ∧ 24#6 ≠ 5#4 ++ 3#2) := by
  decide

theorem witness_EndOfDataInsideWordIsRefused :
    { exhausted with bytepos := 1 }.est = .fetch ∧
    { exhausted with bytepos := 3 }.phase = .exhausted ∧
    { exhausted with bytepos := 1 }.bytepos ≠ 0 := by decide

theorem witness_EndOfDataEndsTheRun :
    { exhausted with wordpos := 15 }.est = .fetch ∧ exhausted.phase = .exhausted ∧
    { exhausted with wordpos := 15 }.bytepos = 0 := by decide

theorem witness_ReadFailureIsPrecise :
    (assembly 15 3 1 [.fail err]).est = .fetch ∧ (assembly 15 3 1 [.fail err]).phase = .streaming ∧
    (assembly 15 3 1 [.fail err]).src.head? = some (.fail err) := ⟨rfl, rfl, rfl⟩

theorem witness_RoundFComputes :
    (atRound 15 15 0 0 0 0 0).est = .round ∧ (atRound 0 0 0 0 0 0 0).i.toNat / 16 = 0 ∧
    (atRound 15 15 0 0 0 0 0).i.toNat / 16 = 0 := by decide

theorem witness_RoundGComputes :
    (atRound 16 1 0 0 0 0 0).est = .round ∧ (atRound 16 1 0 0 0 0 0).i.toNat / 16 = 1 ∧
    (atRound 31 12 0 0 0 0 0).i.toNat / 16 = 1 := by decide

theorem witness_RoundHComputes :
    (atRound 32 5 0 0 0 0 0).est = .round ∧ (atRound 32 5 0 0 0 0 0).i.toNat / 16 = 2 ∧
    (atRound 47 2 0 0 0 0 0).i.toNat / 16 = 2 := by decide

theorem witness_RoundIComputes :
    (atRound 48 0 0 0 0 0 0).est = .round ∧ (atRound 48 0 0 0 0 0 0).i.toNat / 16 = 3 ∧
    (atRound 63 9 0 0 0 0 0).i.toNat / 16 = 3 := by decide

theorem witness_EachWordOncePerQuarter : wordIndexAt (3#2 ++ 15#4) = 9#4 := by decide

theorem witness_MixFunctionsBitByBit : 0 < 32 ∧ 31 < 32 := by decide

theorem witness_RotateMovesBits : (0 < 32 ∧ 31 < 32) ∧ (31 + 31) % 32 = 30 := by decide

theorem witness_SaveCopiesTheRegisters : (engine .save 1 2 3 4).est = .save := by decide

theorem witness_ChainAddsTheSavedValues : (engine .chain 1 2 3 4).est = .chain := by decide

theorem witness_DoneAndFaultHold :
    (engine .done 1 2 3 4).est = .done ∧ (engine .fault 1 2 3 4).est = .fault := by decide

theorem witness_RoundStepCompletes :
    (atRound 0 0 0 0 0 0 0).est = .round ∧ (atRound 63 9 0 0 0 0 0).est = .round := by decide

theorem witness_OnlyResetLeavesDoneAndFault :
    (engine .done 1 2 3 4).est = .done ∧ (engine .fault 1 2 3 4).est = .fault ∧
    { engine .done 1 2 3 4 with host := [.readHex] }.host.head? ≠ some .rst := by decide

/-- Steps that answer a next state: RESET, a reading by HOST, an Engine state that does not fetch, an
unanswered pull, and one for each way out of every phase. -/
theorem witness_PhaseTransitions :
    (nextOf (step { exhausted with host := [.rst] })).map (·.phase) = some .streaming ∧
    ({ reader .streaming 0 0 0 [.eos] with host := [.readHex] }.undisturbed = false ∧
      (nextOf (step { reader .streaming 0 0 0 [.eos] with host := [.readHex] })).map (·.phase) =
        some .streaming) ∧
    (nextOf (step { exhausted with est := .done })).map (·.phase) = some .exhausted ∧
    (nextOf (step { engine .fault 1 2 3 4 with src := source [.eos] })).map (·.phase) =
      some .streaming ∧
    (nextOf (step State.reset)).map (·.phase) = some .streaming ∧
    (nextOf (step (reader .streaming 0 0 0 [.eos]))).map (·.phase) = some .paddingZeroes ∧
    (nextOf (step { reader .paddingZeroes 0x1C0 0 0 [] with wordpos := 14 })).map (·.phase) =
      some .lengthLow ∧
    (nextOf (step (reader .lengthLow 0x1C0 0 3 []))).map (·.phase) = some .lengthHigh ∧
    (nextOf (step (reader .lengthHigh 0x1C0 0 3 []))).map (·.phase) = some .exhausted ∧
    (nextOf (step exhausted)).map (·.phase) = some .exhausted := by decide

/-- The same for the states of the sequencer, `DONE` and `FAULT` among them. -/
theorem witness_SequencerTransitions :
    (nextOf (step { engine .done 1 2 3 4 with host := [.rst] })).map (·.est) = some .fetch ∧
    (nextOf (step { engine .save 1 2 3 4 with host := [.readDigest] })).map (·.est) = some .save ∧
    (nextOf (step (engine .done 1 2 3 4))).map (·.est) = some .done ∧
    (nextOf (step (engine .fault 1 2 3 4))).map (·.est) = some .fault ∧
    (nextOf (step exhausted)).map (·.est) = some .done ∧
    (nextOf (step State.reset)).map (·.est) = some .fetch ∧
    (nextOf (step (assembly 0 0 0 [.fail err]))).map (·.est) = some .fault ∧
    (nextOf (step (assembly 15 3 0 [.byte 1]))).map (·.est) = some .save ∧
    (nextOf (step (assembly 14 3 0 [.byte 1]))).map (·.est) = some .fetch ∧
    (nextOf (step (engine .save 1 2 3 4))).map (·.est) = some .round ∧
    (nextOf (step (atRound 62 2 0 0 0 0 0))).map (·.est) = some .round ∧
    (nextOf (step (atRound 63 9 0 0 0 0 0))).map (·.est) = some .chain ∧
    (nextOf (step (engine .chain 1 2 3 4))).map (·.est) = some .fetch := by decide

/-- A pull, from a finite and from an endless source; RESET, a reading and an Engine state that pull
nothing; an unanswered pull. -/
theorem witness_PullsOnlyWhileStreaming :
    (nextOf (step (assembly 0 0 0 [.byte 1, .eos]))).map (·.src) = some (source [.eos]) ∧
    (nextOf (step (State.reset.connect (.endless 3 7)))).map (·.src) = some (.endless 3 8) ∧
    (nextOf (step { assembly 0 0 0 [.eos] with host := [.rst] })).map (·.src) =
      some (source [.eos]) ∧
    (nextOf (step { assembly 0 0 0 [.eos] with host := [.readHex] })).map (·.src) =
      some (source [.eos]) ∧
    (nextOf (step { engine .save 1 2 3 4 with src := source [.eos] })).map (·.src) =
      some (source [.eos]) ∧
    (State.reset.src.head? = none ∧ (nextOf (step State.reset)).map (·.src) = some .silent) := by
  decide

/-- Each register does change somewhere, and a writer of it is performed. -/
theorem witness_RegistersHaveTheirWriters :
    (after .enFetch (reader .streaming 8 0 0 [.eos]) (fun t => (t.phase, t.origlen)) =
      some (.paddingZeroes, 8) ∧
      (reader .streaming 8 0 0 [.eos]).performs .enFetch = [.enFetch, .baB0 0, .pbStreamEos]) ∧
    (after (.baB0 0) (assembly 0 0 0 [.byte 1]) (fun t => (t.pos, t.bitcnt, t.src, t.readBlk 0)) =
      some (1, 8, .silent, 1) ∧
      (assembly 0 0 0 [.byte 1]).performs (.baB0 0) = [.baB0 0, .pbStreamByte]) ∧
    (after .pbLenlo (reader .lengthLow 0x1C0 0 1 []) (·.sub) = some 2 ∧
      (reader .lengthLow 0x1C0 0 1 []).performs .pbLenlo = [.pbLenlo]) ∧
    (after .enRound (atRound 63 9 0 0 1 0 0) (fun t => (t.est, t.C)) = some (.chain, 1) ∧
      (atRound 63 9 0 0 1 0 0).performs .enRound = [.enRound, .rndI 63]) ∧
    (after .enSave (engine .save 1 2 3 4) (fun t => (t.A0, t.est)) = some (1, .round) ∧
      after .enSave { engine .save 1 2 3 4 with i := 63 } (·.i) = some 0) ∧
    (after .enFetch (assembly 0 0 0 [.fail err]) (fun t => (t.est, t.faultCode)) =
      some (.fault, .sourceReadError) ∧
      (assembly 0 0 0 [.fail err]).performs .enFetch = [.enFetch, .baB0 0, .pbStreamFail]) := by
  decide

theorem witness_HexIsTwoDigitsPerByte : State.reset.dg[0]? = some 0x01 ∧
    State.reset.dg[15]? = some 0x10 := by decide

theorem witness_ReadingOutputsHasNoSideEffect :
    { State.reset with host := [.readDigest] }.host.head? = some .readDigest ∧
    { State.reset with host := [.readHex] }.host.head? = some .readHex := by decide

theorem witness_ResetMakesAFreshInstance :
    { exhausted with host := [.rst] }.host.head? = some .rst ∧
    { exhausted with host := [.rst] }.src = { State.reset with host := [.rst] }.src ∧
    { exhausted with host := [.rst] }.host = { State.reset with host := [.rst] }.host := by decide

/-- The invariant at RESET with a source connected, and at `Exhausted`; both step on. -/
theorem witness_EveryStepKeepsInvariant :
    (State.reset.connect (source [.byte 1])).Inv ∧ exhausted.Inv ∧
    (nextOf (step (State.reset.connect (source [.byte 1])))).isSome = true ∧
    (nextOf (step exhausted)).isSome = true := by
  refine ⟨⟨rfl, rfl, rfl, ⟨rfl, rfl, rfl⟩, trivial, rfl, rfl⟩,
    ⟨rfl, rfl, rfl, ⟨rfl, rfl, rfl⟩, trivial, rfl, rfl⟩, by decide, by decide⟩

theorem witness_InvariantStepsAreNeverRefused :
    State.reset.Inv ∧ State.reset.src.head? ≠ some .reserved := by
  exact ⟨⟨rfl, rfl, rfl, ⟨rfl, rfl, rfl⟩, trivial, rfl, rfl⟩, by decide⟩

/-- A state of each of the four cases that meets the invariant. -/
theorem witness_ReachableAssemblyPairs :
    (exhausted.Inv ∧ exhausted.est = .fetch) ∧
    ({ reader .paddingZeroes 0x1C0 0 0 [] with wordpos := 14 }.Inv ∧
      { reader .paddingZeroes 0x1C0 0 0 [] with wordpos := 14 }.at448 = true) ∧
    { reader .lengthLow 0x1C0 0 1 [] with wordpos := 14, bytepos := 1 }.Inv ∧
    { reader .lengthHigh 0x1C0 0 0 [] with wordpos := 15 }.Inv := by
  exact ⟨⟨⟨rfl, rfl, rfl, ⟨rfl, rfl, rfl⟩, trivial, rfl, rfl⟩, rfl⟩,
    ⟨⟨rfl, rfl, rfl, ⟨rfl, rfl⟩, trivial, rfl, rfl⟩, rfl⟩,
    ⟨rfl, rfl, rfl, ⟨rfl, by decide, rfl, rfl⟩, trivial, rfl, rfl⟩,
    ⟨rfl, rfl, rfl, ⟨rfl, rfl, rfl⟩, trivial, rfl, rfl⟩⟩

/-- A finite and an endless source, nothing taken yet, then one byte; a run that has met `EOS`; one that
has failed. -/
theorem witness_CountersFollowTheSource :
    ((State.reset.connect (source [.byte 1, .eos])).host.head? ≠ some .rst ∧
      (State.reset.connect (source [.byte 1, .eos])).consumedFrom (source [.byte 1, .eos]) ∧
      (nextOf (step (State.reset.connect (source [.byte 1, .eos])))).isSome = true) ∧
    (State.reset.connect (.endless 0 5)).consumedFrom (.endless 0 5) ∧
    (reader .streaming 8 0 0 [.eos]).consumedFrom (source [.byte 1, .eos]) ∧
    (reader .lengthLow 0x1C0 8 1 []).consumedFrom (source [.byte 1, .eos]) ∧
    { reader .streaming 8 0 0 [] with est := .fault }.consumedFrom
      (source [.byte 1, .fail err]) := by
  exact ⟨⟨by decide, ⟨[], rfl, rfl⟩, by decide⟩, ⟨[], rfl, rfl⟩, ⟨[1], rfl, rfl, rfl⟩,
    ⟨[1], rfl, rfl, rfl, rfl⟩, ⟨[1], rfl, err, rfl, rfl, rfl⟩⟩

/-- Two states that differ in a word not yet written. -/
theorem witness_NothingReadsUnwrittenRegisters :
    State.reset.Inv ∧ State.reset.agreeWhereWritten (State.reset.writeBlk 5 1) ∧
    State.reset ≠ State.reset.writeBlk 5 1 ∧ (nextOf (step State.reset)).isSome = true := by
  refine ⟨⟨rfl, rfl, rfl, ⟨rfl, rfl, rfl⟩, trivial, rfl, rfl⟩, ⟨rfl, by decide, by decide⟩,
    by decide, by decide⟩

/-- The source goes on after `EOS`, silent or without end. -/
theorem witness_ReaderProducesThePaddedStream :
    (reader .streaming 0 0 0 [.byte 1, .eos, .byte 2]).phase = .streaming ∧
    (reader .streaming 0 0 0 [.byte 1, .eos, .byte 2]).bitcnt = 0 ∧
    (reader .streaming 0 0 0 [.byte 1, .eos, .byte 2]).sub = 0 ∧
    (reader .streaming 0 0 0 [.byte 1, .eos, .byte 2]).src.gives ([1].map .byte ++ [.eos])
      (source [.byte 2]) ∧
    (Source.ofAnswers [.byte 1, .eos] (.endless 0 0)).gives ([1].map .byte ++ [.eos])
      (.endless 0 0) :=
  ⟨rfl, rfl, rfl, ⟨rfl, rfl, rfl⟩, Source.gives_ofAnswers _ _⟩

/-- 64 bytes of a finite source, and 64 bytes of an endless one. -/
theorem witness_SixtyFourBytesMakeABlock :
    (List.replicate 64 1#8).length = 64 ∧
    State.reset.pos = 0 ∧ State.reset.host = [] ∧ State.reset.answer = none ∧
    (State.reset.connect (source ((List.replicate 64 1#8).map .byte))).src.gives
      ((List.replicate 64 1#8).map .byte) .silent ∧
    (State.reset.connect (.endless 2 0)).src.gives
      (((List.range' 0 64).map (Config.endlessByte 2)).map .byte) (.endless 2 64) := by
  refine ⟨rfl, rfl, rfl, rfl, Source.gives_ofAnswers _ _, ?_⟩
  rw [List.map_map]
  exact Source.endless_gives 2 0 64

theorem witness_CompressFoldsOneBlock :
    (engine .save 1 2 3 4).est = .save ∧ (engine .save 1 2 3 4).host = [] := by decide

theorem witness_RunComputesTheDigest :
    (source ([].map .byte ++ [.eos])).gives ([].map .byte ++ [.eos]) .silent ∧
    130 ≤ blockCount 0 * 130 ∧ 0 ≤ blockCount 0 * 130 :=
  ⟨Source.gives_ofAnswers _ _, by decide, by decide⟩

/-- A source that fails at once, one that fails after a byte, one that never ends, at once and after a
byte. -/
theorem witness_FailingSourceFaultsEndlessNeverEnds :
    (source [.fail err]).gives ([].map .byte ++ [.fail err]) .silent ∧
    (source [.byte 1, .fail err]).gives ([1].map .byte ++ [.fail err]) .silent ∧
    (Source.endless 4 9).gives ([].map .byte) (.endless 4 9) ∧
    (Source.ofAnswers [.byte 1] (.endless 4 9)).gives ([1].map .byte) (.endless 4 9) :=
  ⟨⟨rfl, rfl⟩, ⟨rfl, rfl, rfl⟩, rfl, Source.gives_ofAnswers _ _⟩

end Sys2Proof.Tests
end

section
/-! PROOFS. The statements about the scope and the notation (00_scope.md). -/

namespace Sys2Proof.Machine

/-- R10: bit `k` of `x` goes up by `n` places in `rotl32`, or wraps past bit 31 to `k + n - 32`. -/
theorem getLsbD_rotl32_add_mod (x : Word) {n k : Nat} (hn : n < 32) (hk : k < 32) :
    (rotl32 x n).getLsbD ((k + n) % 32) = x.getLsbD k := by
  rw [rotl32_eq_rotateLeft x hn, BitVec.getLsbD_rotateLeft_of_le hn]
  by_cases hwrap : k + n < 32
  · have hpos : (k + n) % 32 = k + n := Nat.mod_eq_of_lt hwrap
    simp [hpos, hwrap]
  · have hpos : (k + n) % 32 = k + n - 32 := by omega
    have hlow : k + n - 32 < n := by omega
    have hback : 32 - n + (k + n - 32) = k := by omega
    simp [hpos, hlow, hback]

/-- Settles O34: `rotl32` is the library's rotation, whose bits are read on both sides of the wrap. -/
theorem rotateMovesBits : Obligations.RotateMovesBits :=
  fun x _ _ hn hk => getLsbD_rotl32_add_mod x hn hk

end Sys2Proof.Machine
end

section
/-! PROOFS. The fields of the state after a byte is taken (R141 to R144), for the statements of
10_state.md. -/

namespace Sys2Proof.Machine

/-! ### `State.takeByte` -/

variable (u : State) (b : Byte)

@[simp] theorem State.takeByte_phase : (u.takeByte b).phase = u.phase := rfl
@[simp] theorem State.takeByte_bitcnt : (u.takeByte b).bitcnt = u.bitcnt := rfl
@[simp] theorem State.takeByte_origlen : (u.takeByte b).origlen = u.origlen := rfl
@[simp] theorem State.takeByte_sub : (u.takeByte b).sub = u.sub := rfl
@[simp] theorem State.takeByte_wordpos :
    (u.takeByte b).wordpos = if u.bytepos = 3 then u.wordpos + 1 else u.wordpos := rfl
@[simp] theorem State.takeByte_bytepos : (u.takeByte b).bytepos = u.bytepos + 1 := rfl
@[simp] theorem State.takeByte_est :
    (u.takeByte b).est = if u.wordpos = 15 ∧ u.bytepos = 3 then .save else u.est := rfl
@[simp] theorem State.takeByte_faultCode : (u.takeByte b).faultCode = u.faultCode := rfl
@[simp] theorem State.takeByte_errInfo : (u.takeByte b).errInfo = u.errInfo := rfl
@[simp] theorem State.takeByte_src : (u.takeByte b).src = u.src := rfl
@[simp] theorem State.takeByte_answer : (u.takeByte b).answer = none := rfl

theorem State.takeByte_pos : (u.takeByte b).pos = u.pos + 1 := advancePos_pos u

/-- R118: a byte request answered with a byte takes no fault. -/
theorem getByte_byte_frame {s u : State} {b : Byte} (hg : getByte s = .next u)
    (ha : u.answer = some (.byte b)) :
    u.est = s.est ∧ u.faultCode = s.faultCode ∧ u.errInfo = s.errInfo := by
  obtain ⟨-, -, -, -, -, -, -, -, -, -, -, -, hbyte⟩ := getByte_frame hg
  exact hbyte b ha

end Sys2Proof.Machine
end

section
/-! PROOFS. The invariant of 10_state.md: it holds at reset and every step keeps it. -/

namespace Sys2Proof.Machine

/-- R24, R38: one byte more moves the byte number in the block up by one. -/
theorem extractLsb'_three_six_add_eight (c : Count) :
    (c + 8).extractLsb' 3 6 = c.extractLsb' 3 6 + 1 := by
  apply BitVec.eq_of_toNat_eq
  simp [BitVec.extractLsb'_toNat, BitVec.toNat_add, Nat.shiftRight_eq_div_pow]
  omega

/-- R38: one byte more keeps a count whole bytes. -/
theorem extractLsb'_zero_three_add_eight (c : Count) :
    (c + 8#64).extractLsb' 0 3 = c.extractLsb' 0 3 := by
  apply BitVec.eq_of_toNat_eq
  simp [BitVec.extractLsb'_toNat, BitVec.toNat_add, Nat.shiftRight_eq_div_pow]

/-- R40: the length begins at byte 56 of the block. -/
theorem extractLsb'_three_six_of_at448 {s : State} (h : s.at448 = true) :
    s.bitcnt.extractLsb' 3 6 = 56 := by
  have hmod := (at448_iff s).mp h
  apply BitVec.eq_of_toNat_eq
  simp [BitVec.extractLsb'_toNat, Nat.shiftRight_eq_div_pow]
  omega

/-! ### `State.readerInv`, phase by phase -/

section
variable {s : State}

theorem readerInv_iff_of_streaming (hp : s.phase = .streaming) :
    s.readerInv ↔ s.sub = 0 ∧ s.origlen = 0 ∧ s.pos = s.bitcnt.extractLsb' 3 6 := by
  simp [State.readerInv, hp]

theorem readerInv_iff_of_paddingZeroes (hp : s.phase = .paddingZeroes) :
    s.readerInv ↔ s.sub = 0 ∧ s.pos = s.bitcnt.extractLsb' 3 6 := by
  simp [State.readerInv, hp]

theorem readerInv_iff_of_lengthLow (hp : s.phase = .lengthLow) :
    s.readerInv ↔ s.at448 = true ∧ s.sub ≠ 0 ∧ s.wordpos = 14 ∧ s.bytepos = s.sub := by
  simp [State.readerInv, hp]

theorem readerInv_iff_of_lengthHigh (hp : s.phase = .lengthHigh) :
    s.readerInv ↔ s.at448 = true ∧ s.wordpos = 15 ∧ s.bytepos = s.sub := by
  simp [State.readerInv, hp]

theorem readerInv_iff_of_exhausted (hp : s.phase = .exhausted) :
    s.readerInv ↔ s.at448 = true ∧ s.sub = 0 ∧ s.pos = 0 := by
  simp [State.readerInv, hp]

/-- The position on its two parts. -/
theorem pos_eq_append_iff {w : BitVec 4} {k : BitVec 2} :
    s.pos = w ++ k ↔ s.wordpos = w ∧ s.bytepos = k := by
  have key : ∀ (v w : BitVec 4) (j k : BitVec 2), (v ++ j : BitVec 6) = w ++ k ↔ v = w ∧ j = k := by
    decide
  exact key _ _ _ _

end

/-- A counted byte keeps the position in step with the count (R46). -/
theorem takeByte_pos_eq_of_counted {s u : State} (b : Byte) (hpos : u.pos = s.pos)
    (hcnt : u.bitcnt = s.bitcnt + 8) (h : s.pos = s.bitcnt.extractLsb' 3 6) :
    (u.takeByte b).pos = (u.takeByte b).bitcnt.extractLsb' 3 6 := by
  rw [State.takeByte_bitcnt, hcnt, extractLsb'_three_six_add_eight, State.takeByte_pos, hpos, h]

/-- R38, R40, R43: the Reader's registers stay in step with the position when a byte is taken. -/
theorem readerInv_takeByte {s u : State} {b : Byte} (hinv : s.readerInv) (hg : getByte s = .next u)
    (ha : u.answer = some (.byte b)) : (u.takeByte b).readerInv := by
  rcases getByte_next hg with ⟨-, -, rfl⟩ | ⟨_, hp, -, rfl⟩ | ⟨hp, -, rfl⟩ | ⟨_, -, -, rfl⟩ |
    ⟨hp, -, rfl⟩ | ⟨hp, h448, rfl⟩ | ⟨hp, rfl⟩ | ⟨hp, rfl⟩ | ⟨-, rfl⟩
  · simp at ha
  · obtain ⟨hsub, horig, hpos⟩ := (readerInv_iff_of_streaming hp).mp hinv
    exact (readerInv_iff_of_streaming (by simp [hp])).mpr
      ⟨hsub, horig, takeByte_pos_eq_of_counted (s := s) b rfl rfl hpos⟩
  · obtain ⟨hsub, -, hpos⟩ := (readerInv_iff_of_streaming hp).mp hinv
    exact (readerInv_iff_of_paddingZeroes rfl).mpr
      ⟨hsub, takeByte_pos_eq_of_counted (s := s) b rfl rfl hpos⟩
  · simp at ha
  · obtain ⟨hsub, hpos⟩ := (readerInv_iff_of_paddingZeroes hp).mp hinv
    exact (readerInv_iff_of_paddingZeroes (by simp [hp])).mpr
      ⟨hsub, takeByte_pos_eq_of_counted (s := s) b rfl rfl hpos⟩
  · obtain ⟨-, hpos⟩ := (readerInv_iff_of_paddingZeroes hp).mp hinv
    rw [extractLsb'_three_six_of_at448 h448] at hpos
    obtain ⟨hw, hk⟩ := pos_eq_append_iff (w := 14) (k := 0).mp hpos
    exact (readerInv_iff_of_lengthLow rfl).mpr ⟨h448, by simp, by simp [hw, hk], by simp [hk]⟩
  · obtain ⟨h448, hsub, hw, hk⟩ := (readerInv_iff_of_lengthLow hp).mp hinv
    have hat : (s.advanceSub .lengthHigh).at448 = true := by simpa [State.at448] using h448
    by_cases h3 : s.sub = 3#2
    · exact (readerInv_iff_of_lengthHigh (by simp [h3])).mpr
        ⟨hat, by simp [hw, hk, h3], by simp [hk]⟩
    · have hnext : s.sub + 1 ≠ 0 := by
        revert h3; generalize s.sub = k; revert k; decide
      exact (readerInv_iff_of_lengthLow (by simp [h3, hp])).mpr
        ⟨hat, by simpa using hnext, by simp [hw, hk, h3], by simp [hk]⟩
  · obtain ⟨h448, hw, hk⟩ := (readerInv_iff_of_lengthHigh hp).mp hinv
    have hat : (s.advanceSub .exhausted).at448 = true := by simpa [State.at448] using h448
    by_cases h3 : s.sub = 3#2
    · exact (readerInv_iff_of_exhausted (by simp [h3])).mpr
        ⟨hat, by simp [h3], pos_eq_append_iff (w := 0) (k := 0).mpr
          ⟨by simp [hw, hk, h3], by simp [hk, h3]⟩⟩
    · exact (readerInv_iff_of_lengthHigh (by simp [h3, hp])).mpr
        ⟨hat, by simp [hw, hk, h3], by simp [hk]⟩
  · simp at ha

/-- R38: counts stay whole bytes through a byte request. -/
theorem getByte_keeps_wholeBytes {s u : State} (hcnt : s.bitcnt.extractLsb' 0 3 = 0)
    (horig : s.origlen.extractLsb' 0 3 = 0) (hg : getByte s = .next u) :
    u.bitcnt.extractLsb' 0 3 = 0 ∧ u.origlen.extractLsb' 0 3 = 0 := by
  rcases getByte_next hg with ⟨-, -, rfl⟩ | ⟨_, -, -, rfl⟩ | ⟨-, -, rfl⟩ | ⟨_, -, -, rfl⟩ |
    ⟨-, -, rfl⟩ | ⟨-, -, rfl⟩ | ⟨-, rfl⟩ | ⟨-, rfl⟩ | ⟨-, rfl⟩ <;>
  simp [extractLsb'_zero_three_add_eight, hcnt, horig]

/-- R44: the block is complete exactly when the position is back at 0. -/
theorem engineInv_takeByte {u : State} (b : Byte) (he : u.est = .fetch) :
    (u.takeByte b).engineInv := by
  by_cases hlast : u.wordpos = 15#4 ∧ u.bytepos = 3#2
  · have hpos : (u.takeByte b).pos = 0 := pos_eq_append_iff (w := 0) (k := 0).mpr (by simp [hlast])
    simpa [State.engineInv, hlast] using hpos
  · simp [State.engineInv, hlast, he]

theorem faultInv_iff_of_ne {s : State} (he : s.est ≠ .fault) :
    s.faultInv ↔ s.faultCode = .none ∧ s.errInfo = none := by
  simp [State.faultInv, he]

/-- Taking a byte in FETCH keeps the invariant. -/
theorem inv_takeByte {s u : State} {b : Byte} (hinv : s.Inv) (he : s.est = .fetch)
    (hg : getByte s = .next u) (ha : u.answer = some (.byte b)) : (u.takeByte b).Inv := by
  obtain ⟨hcnt, horig, -, hreader, -, hfault⟩ := hinv
  obtain ⟨hest, hcode, herr⟩ := getByte_byte_frame hg ha
  rw [faultInv_iff_of_ne (by simp [he])] at hfault
  have hrun : (u.takeByte b).est ≠ .fault := by
    rw [State.takeByte_est, hest, he]; split <;> simp
  obtain ⟨hcnt', horig'⟩ := getByte_keeps_wholeBytes hcnt horig hg
  exact ⟨hcnt', horig', rfl, readerInv_takeByte hreader hg ha,
    engineInv_takeByte b (hest.trans he),
    (faultInv_iff_of_ne hrun).mpr ⟨hcode.trans hfault.1, herr.trans hfault.2⟩⟩

/-- R141 to R146: every EN.FETCH keeps the invariant. -/
theorem inv_execEnFetch {s t : State} (hinv : s.Inv) (he : s.est = .fetch)
    (h : execEnFetch s = .next t) : t.Inv := by
  rcases execEnFetch_next he h with ⟨-, -, rfl⟩ | ⟨u, b, hg, ha, rfl⟩ | ⟨hp, -, rfl⟩ |
    ⟨e, hp, -, rfl⟩
  · exact hinv
  · exact inv_takeByte hinv he hg ha
  · obtain ⟨hcnt, horig, -, hreader, -, hfault⟩ := hinv
    rw [faultInv_iff_of_ne (by simp [he])] at hfault
    exact ⟨hcnt, horig, rfl, hreader, hp, (faultInv_iff_of_ne (by simp)).mpr hfault⟩
  · obtain ⟨hcnt, horig, -, hreader, -, -⟩ := hinv
    exact ⟨hcnt, horig, rfl, hreader, hp, rfl, rfl⟩

/-- Where `est` and `i` move outside FETCH and the Reader stands still: what is left to show. -/
theorem inv_of_sameReader {s t : State} (hinv : s.Inv)
    (ht : t = { s with
      A := t.A, B := t.B, C := t.C, D := t.D, A0 := t.A0, B0 := t.B0, C0 := t.C0, D0 := t.D0,
      i := t.i, est := t.est })
    (hs : s.est ≠ .fault) (hrun : t.est ≠ .fault) (hengine : t.engineInv) : t.Inv := by
  obtain ⟨hcnt, horig, hans, hreader, -, hfault⟩ := hinv
  rw [faultInv_iff_of_ne hs] at hfault
  have hfault' : t.faultInv := (faultInv_iff_of_ne hrun).mpr (by rw [ht]; exact hfault)
  refine ⟨?_, ?_, ?_, ?_, hengine, hfault'⟩ <;> (rw [ht]; assumption)

/-- Settles O49, by evaluating each clause. -/
theorem resetStateMeetsInvariant : Obligations.ResetStateMeetsInvariant :=
  ⟨rfl, rfl, rfl, ⟨rfl, rfl, rfl⟩, trivial, rfl, rfl⟩

/-- The inputs, which RESET keeps, are not in the invariant. -/
theorem inv_applyReset (s : State) : s.applyReset.Inv := resetStateMeetsInvariant

/-- R160, R193: a round keeps the invariant, and hands over to CHAIN at `i = 63`. -/
theorem inv_roundStep {s : State} (hinv : s.Inv) (he : s.est = .round) (f : Word) (g : BitVec 4) :
    (roundStep f g s).Inv := by
  have hpos : s.pos = 0 := by
    obtain ⟨-, -, -, -, hengine, -⟩ := hinv
    simpa [State.engineInv, he] using hengine
  have hpos' : (roundStep f g s).pos = 0 := hpos
  apply inv_of_sameReader hinv rfl (by simp [he])
  · rw [roundStep_est, he]; split <;> simp
  · by_cases hlast : s.i = 63#6
    · simpa [State.engineInv, hlast] using hpos'
    · simpa [State.engineInv, hlast, he] using hpos'

/-- Settles O50, by the cases of a step. -/
theorem everyStepKeepsInvariant : Obligations.EveryStepKeepsInvariant := by
  intro s t hinv h
  rcases step_cases h with ⟨-, rfl⟩ | ⟨-, -, rfl | rfl⟩ | ⟨-, -, v, rfl, hv⟩
  · exact inv_applyReset s
  · exact hinv
  · exact hinv
  · show v.Inv
    rcases hv with ⟨he, hx⟩ | ⟨he, rfl⟩ | ⟨he, rfl⟩ | ⟨he, rfl⟩ | ⟨-, rfl⟩
    · exact inv_execEnFetch hinv he hx
    · have hpos : s.pos = 0 := by
        obtain ⟨-, -, -, -, hengine, -⟩ := hinv
        simpa [State.engineInv, he] using hengine
      exact inv_of_sameReader hinv rfl (by simp [he]) (by simp) hpos
    · exact inv_roundStep hinv he _ _
    · exact inv_of_sameReader hinv rfl (by simp [he]) (by simp) trivial
    · exact hinv

end Sys2Proof.Machine
end

section
/-! PROOFS. The four BA operations and EN.FETCH as one byte request each (R140, R191). -/

namespace Sys2Proof.Machine

/-- R141, R145: what the BA operation at byte `k` of a word makes of EndOfData. -/
def endOfDataAt (k : BitVec 2) (u : State) : Out :=
  if k = 0 then .next { u with est := .done } else endInsideWord u

/-- `byteStep` looks at its two continuations only on states a byte request has left. -/
theorem byteStep_congr {s : State} {f f' : Byte → State → State} {e e' : State → Out}
    (hf : ∀ b u, getByte s = .next u → f b u.clearAnswer = f' b u.clearAnswer)
    (he : ∀ u, e u = e' u) : byteStep s f e = byteStep s f' e' := by
  unfold byteStep
  cases hg : getByte s with
  | fault r => rfl
  | refused r => rfl
  | next u =>
    cases ha : u.answer with
    | none => simp [ha]
    | some a => cases a <;> simp [ha, hf _ u hg, he]

/-- The BA operation of a position (R94, R100). -/
def baAt (w : BitVec 4) (k : BitVec 2) : Instr :=
  if k = 0 then .baB0 w else if k = 1 then .baB1 w else if k = 2 then .baB2 w else .baB3 w

@[simp] theorem baAt_zero (w : BitVec 4) : baAt w 0#2 = .baB0 w := rfl
@[simp] theorem baAt_one (w : BitVec 4) : baAt w 1#2 = .baB1 w := rfl
@[simp] theorem baAt_two (w : BitVec 4) : baAt w 2#2 = .baB2 w := rfl
@[simp] theorem baAt_three (w : BitVec 4) : baAt w 3#2 = .baB3 w := rfl

theorem whenSelected_congr {c : Bool} {m : String} {o o' : Out} (h : c = true → o = o') :
    whenSelected c m o = whenSelected c m o' := by
  cases c
  · rfl
  · exact h rfl

theorem assembling_iff {s : State} {w : BitVec 4} {k : BitVec 2} :
    s.assembling w k = true ↔ s.est = .fetch ∧ s.wordpos = w ∧ s.bytepos = k := by
  simp [State.assembling, and_assoc, and_comm (a := s.bytepos = k)]

/-- What a BA operation does with its byte is taking it at the position the byte request left. -/
theorem byteStep_eq_of_takeByte {s : State} {w : BitVec 4} {k : BitVec 2}
    {f : Byte → State → State} {e : State → Out} (hsel : s.assembling w k = true)
    (hf : ∀ b (u : State), u.wordpos = w → u.bytepos = k → f b u.clearAnswer = u.takeByte b)
    (he : e = endOfDataAt k) :
    byteStep s f e = byteStep s (fun b u => u.takeByte b) (endOfDataAt k) := by
  obtain ⟨-, hw, hk⟩ := assembling_iff.mp hsel
  refine byteStep_congr (fun b u hg => ?_) (fun u => by rw [he])
  obtain ⟨-, hw', hk', -⟩ := getByte_frame hg
  exact hf b u (hw'.trans hw) (hk'.trans hk)

/-- R142 to R144: after the first byte of a word, taking a byte is ORing it into its lane,
and closing the block after the last. -/
theorem orLane_eq_takeByte {u : State} (h0 : u.bytepos ≠ 0#2) (b : Byte) :
    { u.clearAnswer.orLane u.wordpos u.bytepos.toNat b with
      est := if u.wordpos = 15 ∧ u.bytepos = 3 then .save else u.est } = u.takeByte b := by
  simp [State.takeByte, State.orLane, State.writeBlk, State.advancePos, State.clearAnswer,
    State.readBlk, h0]
  rfl

theorem orLane_eq_takeByte_of_not_last {u : State} (h0 : u.bytepos ≠ 0#2) (h3 : u.bytepos ≠ 3#2)
    (b : Byte) : u.clearAnswer.orLane u.wordpos u.bytepos.toNat b = u.takeByte b := by
  rw [← orLane_eq_takeByte h0, if_neg fun hlast => h3 hlast.2]; rfl

/-- R140 to R146: every BA operation is one byte request whose byte is taken at the position. -/
theorem exec_baAt (w : BitVec 4) (k : BitVec 2) (s : State) :
    exec (baAt w k) s = whenSelected (s.assembling w k) (mnemonicOf (baAt w k))
      (byteStep s (fun b u => u.takeByte b) (endOfDataAt k)) := by
  rcases bytepos_cases k with rfl | rfl | rfl | rfl
  · refine whenSelected_congr fun hsel => byteStep_eq_of_takeByte hsel (fun b u hw hk => ?_) rfl
    simp [State.takeByte, State.writeBlk, State.advancePos, State.clearAnswer, hk, hw]
  · refine whenSelected_congr fun hsel => byteStep_eq_of_takeByte hsel (fun b u hw hk => ?_) rfl
    rw [← orLane_eq_takeByte_of_not_last (by simp [hk]) (by simp [hk]), hk, hw]
    rfl
  · refine whenSelected_congr fun hsel => byteStep_eq_of_takeByte hsel (fun b u hw hk => ?_) rfl
    rw [← orLane_eq_takeByte_of_not_last (by simp [hk]) (by simp [hk]), hk, hw]
    rfl
  · refine whenSelected_congr fun hsel => byteStep_eq_of_takeByte hsel (fun b u hw hk => ?_) rfl
    rw [← orLane_eq_takeByte (by simp [hk]), hk, hw]
    by_cases h15 : w = 15
    · rw [if_pos h15, if_pos ⟨h15, rfl⟩]; rfl
    · rw [if_neg h15, if_neg fun hlast => h15 hlast.1]; rfl

/-- R191: EN.FETCH is the BA operation of its position. -/
theorem execEnFetch_eq_exec_baAt {s : State} (he : s.est = .fetch) :
    execEnFetch s = exec (baAt s.wordpos s.bytepos) s := by
  rcases bytepos_cases s.bytepos with hb | hb | hb | hb <;> simp [execEnFetch, he, hb, exec]

/-- A BA operation that answers a next state is EN.FETCH at its own position (R101, R191). -/
theorem exec_baAt_next {w : BitVec 4} {k : BitVec 2} {s t : State}
    (h : exec (baAt w k) s = .next t) :
    s.est = .fetch ∧ s.wordpos = w ∧ s.bytepos = k ∧ execEnFetch s = .next t := by
  have hsel := h
  rw [exec_baAt] at hsel
  obtain ⟨he, rfl, rfl⟩ := assembling_iff.mp (whenSelected_next hsel).1
  exact ⟨he, rfl, rfl, (execEnFetch_eq_exec_baAt he).trans h⟩

/-- R140, R191: EN.FETCH is one byte request whose byte is taken at the position. -/
theorem execEnFetch_eq {s : State} (he : s.est = .fetch) :
    execEnFetch s = byteStep s (fun b u => u.takeByte b) (endOfDataAt s.bytepos) := by
  rw [execEnFetch_eq_exec_baAt he, exec_baAt, whenSelected_of (assembling_iff.mpr ⟨he, rfl, rfl⟩)]

end Sys2Proof.Machine
end

section
/-! PROOFS. From a state that meets the invariant a step is refused only for the reserved answer. -/

namespace Sys2Proof.Machine

/-- R107, R118: a byte request that SRC does not answer with the reserved code has a meaning. -/
theorem getByte_of_not_reserved {s : State} (h : s.src.head? ≠ some .reserved) :
    ∃ u, getByte s = .next u := by
  by_contra hno
  exact h (getByte_not_next fun u hu => hno ⟨u, hu⟩).2.1

/-- R128: only an exhausted Reader signals EndOfData. -/
theorem phase_of_getByte_endOfData {s u : State} (hg : getByte s = .next u)
    (ha : u.answer = some .endOfData) : s.phase = .exhausted := by
  rcases getByte_next hg with ⟨-, -, rfl⟩ | ⟨_, -, -, rfl⟩ | ⟨-, -, rfl⟩ | ⟨_, -, -, rfl⟩ |
    ⟨-, -, rfl⟩ | ⟨-, -, rfl⟩ | ⟨-, rfl⟩ | ⟨-, rfl⟩ | ⟨hp, -⟩
  case inr.inr.inr.inr.inr.inr.inr.inr => exact hp
  all_goals simp at ha

/-- R145: EN.FETCH completes where EndOfData cannot come inside a word. -/
theorem execEnFetch_completes {s : State} (he : s.est = .fetch)
    (hsrc : s.src.head? ≠ some .reserved) (hend : s.phase = .exhausted → s.bytepos = 0) :
    ∃ t, execEnFetch s = .next t := by
  obtain ⟨u, hg⟩ := getByte_of_not_reserved hsrc
  rw [execEnFetch_eq he]
  simp only [byteStep, hg]
  cases ha : u.answer with
  | none => exact ⟨s, rfl⟩
  | some a =>
    cases a with
    | byte b => exact ⟨_, rfl⟩
    | sourceReadError e => exact ⟨_, rfl⟩
    | endOfData =>
      have hb := hend (phase_of_getByte_endOfData hg ha)
      simp [endOfDataAt, hb]

/-- R190 to R196: the sequencer's operation completes where EN.FETCH does. -/
theorem exec_current_completes {s : State}
    (hfetch : s.est = .fetch → ∃ t, execEnFetch s = .next t) : ∃ t, exec s.current s = .next t := by
  rcases host_cases s with ⟨hh, hc⟩ | ⟨-, hc⟩ | ⟨-, hc⟩ | ⟨hu, -⟩
  · exact ⟨s.applyReset, by rw [hc]; exact whenSelected_of (by simp [State.rst, hh]) _ _⟩
  · exact ⟨_, by rw [hc]; rfl⟩
  · exact ⟨_, by rw [hc]; rfl⟩
  · rw [current_of_undisturbed hu]
    cases he : s.est with
    | fetch => exact hfetch he
    | round => exact ⟨_, execEnRound_eq s he⟩
    | save => exact ⟨_, whenSelected_of (by simp [he]) _ _⟩
    | chain => exact ⟨_, whenSelected_of (by simp [he]) _ _⟩
    | done => exact ⟨_, whenSelected_of (by simp [he]) _ _⟩
    | fault => exact ⟨_, whenSelected_of (by simp [he]) _ _⟩

/-- Settles O51: EndOfData comes at a block boundary only. -/
theorem invariantStepsAreNeverRefused : Obligations.InvariantStepsAreNeverRefused := by
  intro s hinv hsrc
  obtain ⟨-, -, -, hreader, -, -⟩ := hinv
  have hend : s.phase = .exhausted → s.bytepos = 0 := fun hp => by
    obtain ⟨-, -, hpos⟩ := (readerInv_iff_of_exhausted hp).mp hreader
    exact (pos_eq_append_iff (w := 0) (k := 0).mp hpos).2
  obtain ⟨u, hu⟩ := exec_current_completes fun he => execEnFetch_completes he hsrc hend
  exact ⟨_, step_of_exec hu⟩

end Sys2Proof.Machine
end

section
/-! PROOFS. The counters follow the source (R39, R41). -/

namespace Sys2Proof.Machine

/-- One more answer taken from the source. -/
theorem Source.gives_concat {all r : Source} {l : List SrcAnswer} {a : SrcAnswer}
    (h : all.gives l r) (ha : r.head? = some a) : all.gives (l ++ [a]) r.rest :=
  Source.gives_append.mpr ⟨r, h, ha, rfl⟩

/-! ### `State.consumedFrom`, case by case -/

section
variable {all : Source} {s : State}

theorem consumedFrom_iff_of_running (hp : s.phase = .streaming) (he : s.est ≠ .fault) :
    s.consumedFrom all ↔ ∃ bytes : List Byte,
      s.bitcnt = BitVec.ofNat 64 (8 * bytes.length) ∧ all.gives (bytes.map .byte) s.src := by
  simp [State.consumedFrom, hp, he]

theorem consumedFrom_iff_of_failed (hp : s.phase = .streaming) (he : s.est = .fault) :
    s.consumedFrom all ↔ ∃ bytes : List Byte,
      s.bitcnt = BitVec.ofNat 64 (8 * bytes.length) ∧
        ∃ e, all.gives (bytes.map .byte ++ [.fail e]) s.src := by
  simp [State.consumedFrom, hp, he]

theorem consumedFrom_iff_of_ended (hp : s.phase ≠ .streaming) :
    s.consumedFrom all ↔ ∃ bytes : List Byte,
      s.origlen = BitVec.ofNat 64 (8 * bytes.length) ∧
        all.gives (bytes.map .byte ++ [.eos]) s.src := by
  simp [State.consumedFrom, hp]

end

/-- After the source has ended, what keeps `origlen` and `src` and does not stream again keeps the
count. -/
theorem consumedFrom_of_ended {all : Source} {s t : State} (h : s.consumedFrom all)
    (hp : s.phase ≠ .streaming) (hp' : t.phase ≠ .streaming) (horig : t.origlen = s.origlen)
    (hsrc : t.src = s.src) : t.consumedFrom all := by
  rw [consumedFrom_iff_of_ended hp] at h
  rwa [consumedFrom_iff_of_ended hp', horig, hsrc]

/-- A step outside the Reader keeps the count, if it neither enters nor leaves FAULT. -/
theorem consumedFrom_of_sameReader {all : Source} {s t : State} (h : s.consumedFrom all)
    (hp : t.phase = s.phase) (hcnt : t.bitcnt = s.bitcnt) (horig : t.origlen = s.origlen)
    (hsrc : t.src = s.src) (hest : t.est = .fault ↔ s.est = .fault) : t.consumedFrom all := by
  simpa only [State.consumedFrom, hp, hcnt, horig, hsrc, hest] using h

theorem ofNat_eight_mul_succ_length (bytes : List Byte) (b : Byte) :
    BitVec.ofNat 64 (8 * bytes.length) + 8 = BitVec.ofNat 64 (8 * (bytes ++ [b]).length) := by
  rw [List.length_append, Nat.mul_add, BitVec.ofNat_add]; rfl

/-- R120 to R128: a byte request answered with a byte keeps the count. -/
theorem consumedFrom_takeByte {all : Source} {s u : State} {b : Byte} (h : s.consumedFrom all)
    (he : s.est = .fetch) (hg : getByte s = .next u) (ha : u.answer = some (.byte b)) :
    (u.takeByte b).consumedFrom all := by
  have hrun : (u.takeByte b).est ≠ .fault := by
    rw [State.takeByte_est, (getByte_byte_frame hg ha).1, he]; split <;> simp
  rcases getByte_next hg with ⟨-, -, rfl⟩ | ⟨b', hp, hsrc, rfl⟩ | ⟨hp, hsrc, rfl⟩ | ⟨_, -, -, rfl⟩ |
    ⟨hp, -, rfl⟩ | ⟨hp, -, rfl⟩ | ⟨hp, rfl⟩ | ⟨hp, rfl⟩ | ⟨-, rfl⟩
  · simp at ha
  · obtain ⟨bytes, hcnt, hgives⟩ := (consumedFrom_iff_of_running hp (by simp [he])).mp h
    refine (consumedFrom_iff_of_running (by simp [hp]) hrun).mpr ⟨bytes ++ [b'], ?_, ?_⟩
    · rw [← ofNat_eight_mul_succ_length, ← hcnt]; rfl
    · simpa using Source.gives_concat hgives hsrc
  · obtain ⟨bytes, hcnt, hgives⟩ := (consumedFrom_iff_of_running hp (by simp [he])).mp h
    exact (consumedFrom_iff_of_ended (by simp)).mpr
      ⟨bytes, hcnt, Source.gives_concat hgives hsrc⟩
  · simp at ha
  · exact consumedFrom_of_ended h (by simp [hp]) (by simp [hp]) rfl rfl
  · exact consumedFrom_of_ended h (by simp [hp]) (by simp) rfl rfl
  · exact consumedFrom_of_ended h (by simp [hp]) (by simp [hp]; split <;> simp) (by simp) (by simp)
  · exact consumedFrom_of_ended h (by simp [hp]) (by simp [hp]; split <;> simp) (by simp) (by simp)
  · simp at ha

/-- R141 to R146: every EN.FETCH keeps the count. -/
theorem consumedFrom_execEnFetch {all : Source} {s t : State} (h : s.consumedFrom all)
    (he : s.est = .fetch) (hx : execEnFetch s = .next t) : t.consumedFrom all := by
  rcases execEnFetch_next he hx with ⟨-, -, rfl⟩ | ⟨u, b, hg, ha, rfl⟩ | ⟨hp, -, rfl⟩ |
    ⟨e, hp, hsrc, rfl⟩
  · exact h
  · exact consumedFrom_takeByte h he hg ha
  · exact consumedFrom_of_ended h (by simp [hp]) (by simp [hp]) rfl rfl
  · obtain ⟨bytes, hcnt, hgives⟩ := (consumedFrom_iff_of_running hp (by simp [he])).mp h
    exact (consumedFrom_iff_of_failed (by simp [hp]) rfl).mpr
      ⟨bytes, hcnt, e, Source.gives_concat hgives hsrc⟩

/-- Settles O53, by the cases of a step: only EN.FETCH moves the Reader. -/
theorem countersFollowTheSource : Obligations.CountersFollowTheSource := by
  intro all s t hrst h hstep
  rcases step_cases hstep with ⟨hh, -⟩ | ⟨-, -, rfl | rfl⟩ | ⟨-, -, v, rfl, hv⟩
  · exact absurd hh hrst
  · exact h
  · exact h
  · show v.consumedFrom all
    rcases hv with ⟨he, hx⟩ | ⟨he, rfl⟩ | ⟨he, rfl⟩ | ⟨he, rfl⟩ | ⟨-, rfl⟩
    · exact consumedFrom_execEnFetch h he hx
    · exact consumedFrom_of_sameReader h rfl rfl rfl rfl (by simp [he])
    · exact consumedFrom_of_sameReader h rfl rfl rfl rfl (by simp [he]; split <;> simp)
    · exact consumedFrom_of_sameReader h rfl rfl rfl rfl (by simp [he])
    · exact h

end Sys2Proof.Machine
end

section
/-! PROOFS. No step looks at a word of `M` or a saved register that has not been written (R44). -/

namespace Sys2Proof.Machine

/-- The state with the block buffer and the saved registers of another. -/
def State.withBlockOf (s x : State) : State :=
  { s with M := x.M, A0 := x.A0, B0 := x.B0, C0 := x.C0, D0 := x.D0 }

/-- `State.agreeWhereWritten` as three clauses. -/
theorem agreeWhereWritten_iff {s t : State} :
    s.agreeWhereWritten t ↔ t = s.withBlockOf t ∧
      (∀ j, s.wordWritten j = true → t.readBlk j = s.readBlk j) ∧
      (s.savedWritten = true → t.A0 = s.A0 ∧ t.B0 = s.B0 ∧ t.C0 = s.C0 ∧ t.D0 = s.D0) := Iff.rfl

section
variable (s x : State)

@[simp] theorem withBlockOf_phase : (s.withBlockOf x).phase = s.phase := rfl
@[simp] theorem withBlockOf_src : (s.withBlockOf x).src = s.src := rfl
@[simp] theorem withBlockOf_origlen : (s.withBlockOf x).origlen = s.origlen := rfl
@[simp] theorem withBlockOf_answer : (s.withBlockOf x).answer = s.answer := rfl
@[simp] theorem withBlockOf_sub : (s.withBlockOf x).sub = s.sub := rfl
@[simp] theorem withBlockOf_at448 : (s.withBlockOf x).at448 = s.at448 := rfl
@[simp] theorem withBlockOf_clearAnswer :
    (s.withBlockOf x).clearAnswer = s.clearAnswer.withBlockOf x := rfl
@[simp] theorem withBlockOf_deliver (a : Answer) :
    (s.withBlockOf x).deliver a = (s.deliver a).withBlockOf x := rfl

@[simp] theorem withBlockOf_advanceSub (p : Phase) :
    (s.withBlockOf x).advanceSub p = (s.advanceSub p).withBlockOf x := by
  unfold State.advanceSub
  split
  · next h => rw [if_pos (by exact h)]; rfl
  · next h => rw [if_neg (by exact h)]; rfl

end

/-- R119: a byte request neither looks at the block buffer or the saved registers nor writes
them. -/
theorem getByte_withBlockOf {s u : State} (x : State) (hg : getByte s = .next u) :
    getByte (s.withBlockOf x) = .next (u.withBlockOf x) := by
  cases hp : s.phase with
  | streaming =>
    cases hs : s.src.head? with
    | none => simp [getByte, hp, hs] at hg ⊢; rw [hg]
    | some a =>
      cases a with
      | byte b => simp [getByte, hp, hs, execPbStreamByte, onPull] at hg ⊢; subst hg; rfl
      | eos => simp [getByte, hp, hs, execPbStreamEos, onPull] at hg ⊢; subst hg; rfl
      | fail e => simp [getByte, hp, hs, execPbStreamFail, onPull] at hg ⊢; subst hg; rfl
      | reserved => simp [getByte, hp, hs] at hg
  | paddingZeroes =>
    have hat : s.clearAnswer.at448 = s.at448 := rfl
    cases h448 : s.at448 with
    | false => simp [getByte, hp, hat, h448, execPbPadzZero] at hg ⊢; subst hg; rfl
    | true => simp [getByte, hp, hat, h448, execPbPadzLen] at hg ⊢; subst hg; rfl
  | lengthLow => simp [getByte, hp, execPbLenlo] at hg ⊢; rw [hg]
  | lengthHigh => simp [getByte, hp, execPbLenhi] at hg ⊢; rw [hg]
  | exhausted => simp [getByte, hp, execPbExh] at hg ⊢; rw [hg]

/-! ### Which words are written -/

theorem readBlk_takeByte_same (u : State) (b : Byte) : (u.takeByte b).readBlk u.wordpos =
    (if u.bytepos = 0 then 0 else u.readBlk u.wordpos) ||| intoLane b u.bytepos.toNat := by
  simp [State.readBlk, State.takeByte]

theorem readBlk_takeByte_other (u : State) (b : Byte) {j : BitVec 4} (h : j ≠ u.wordpos) :
    (u.takeByte b).readBlk j = u.readBlk j := by
  have hne : u.wordpos.toNat ≠ j.toNat := fun e => h (BitVec.eq_of_toNat_eq e.symm)
  simp [State.readBlk, State.takeByte, hne]

theorem wordWritten_of_fetch {s : State} (he : s.est = .fetch) (j : BitVec 4) :
    s.wordWritten j = true ↔ j < s.wordpos ∨ (j = s.wordpos ∧ s.bytepos ≠ 0) := by
  simp [State.wordWritten, he]

/-- Taking a byte writes the word of the position and no other. -/
theorem wordWritten_of_takeByte {u : State} {b : Byte} {j : BitVec 4} (he : u.est = .fetch)
    (h : (u.takeByte b).wordWritten j = true) : j = u.wordpos ∨ u.wordWritten j = true := by
  rw [wordWritten_of_fetch he]
  by_cases hlast : u.wordpos = 15 ∧ u.bytepos = 3
  · rw [hlast.1]
    bv_omega
  · have he' : (u.takeByte b).est = .fetch := by rw [State.takeByte_est, if_neg hlast, he]
    rw [wordWritten_of_fetch he', State.takeByte_wordpos, State.takeByte_bytepos] at h
    by_cases h3 : u.bytepos = 3
    · have h15 : u.wordpos ≠ 15 := fun h15 => hlast ⟨h15, h3⟩
      rw [if_pos h3, h3] at h
      have hj : j < u.wordpos + 1 := h.resolve_right fun hk => absurd hk.2 (by decide)
      bv_omega
    · rw [if_neg h3] at h
      rcases h with h | ⟨h, -⟩
      · exact .inr (.inl h)
      · exact .inl h

/-! ### Agreement, clause by clause -/

theorem agreeWhereWritten_withBlockOf {s x : State} :
    s.agreeWhereWritten (s.withBlockOf x) ↔
      (∀ j, s.wordWritten j = true → x.readBlk j = s.readBlk j) ∧
      (s.savedWritten = true → x.A0 = s.A0 ∧ x.B0 = s.B0 ∧ x.C0 = s.C0 ∧ x.D0 = s.D0) := by
  simp only [agreeWhereWritten_iff]
  exact and_iff_right rfl

theorem exists_withBlockOf {s s' : State} (h : s.agreeWhereWritten s') :
    ∃ x, s' = s.withBlockOf x := ⟨s', h.1⟩

/-- Where nothing counts as written, states agree whatever the block and the saved registers. -/
theorem agreeWhereWritten_of_nothing_written {s : State} (x : State)
    (hw : ∀ j, s.wordWritten j = false) (hs : s.savedWritten = false) :
    s.agreeWhereWritten (s.withBlockOf x) :=
  agreeWhereWritten_withBlockOf.mpr ⟨by simp [hw], by simp [hs]⟩

theorem agreeWhereWritten_advanceHost {s s' : State} (h : s.agreeWhereWritten s') :
    s.advanceHost.agreeWhereWritten s'.advanceHost := by
  obtain ⟨x, rfl⟩ := exists_withBlockOf h
  have hclauses := agreeWhereWritten_withBlockOf.mp h
  exact (agreeWhereWritten_withBlockOf (s := s.advanceHost) (x := x)).mpr hclauses

/-- R141 to R144: the byte completes its word from that word alone. -/
theorem agreeWhereWritten_takeByte {u x : State} (b : Byte) (he : u.est = .fetch)
    (h : u.agreeWhereWritten (u.withBlockOf x)) :
    (u.takeByte b).agreeWhereWritten ((u.withBlockOf x).takeByte b) := by
  obtain ⟨hword, -⟩ := agreeWhereWritten_withBlockOf.mp h
  refine agreeWhereWritten_iff.mpr ⟨rfl, fun j hj => ?_, fun hs => ?_⟩
  · by_cases hjw : j = u.wordpos
    · subst hjw
      have hold : u.bytepos ≠ 0 → x.readBlk u.wordpos = u.readBlk u.wordpos :=
        fun h0 => hword _ ((wordWritten_of_fetch he _).mpr (.inr ⟨rfl, h0⟩))
      have hnew : ((u.withBlockOf x).takeByte b).readBlk u.wordpos =
          (if u.bytepos = 0 then 0 else x.readBlk u.wordpos) ||| intoLane b u.bytepos.toNat :=
        readBlk_takeByte_same (u.withBlockOf x) b
      rw [readBlk_takeByte_same, hnew]
      by_cases h0 : u.bytepos = 0
      · rw [if_pos h0, if_pos h0]
      · rw [if_neg h0, if_neg h0, hold h0]
    · have hjw' : j ≠ (u.withBlockOf x).wordpos := hjw
      rw [readBlk_takeByte_other _ b hjw, readBlk_takeByte_other _ b hjw']
      exact hword j ((wordWritten_of_takeByte he hj).resolve_left hjw)
  · rw [State.savedWritten, State.takeByte_est, he] at hs
    split at hs <;> simp at hs

/-- R44: in FETCH only the words before the position count. -/
theorem agreeWhereWritten_of_fetch {s u x : State} (h : s.agreeWhereWritten (s.withBlockOf x))
    (he : s.est = .fetch) (he' : u.est = .fetch) (hM : u.M = s.M) (hw : u.wordpos = s.wordpos)
    (hk : u.bytepos = s.bytepos) : u.agreeWhereWritten (u.withBlockOf x) := by
  obtain ⟨hword, -⟩ := agreeWhereWritten_withBlockOf.mp h
  refine agreeWhereWritten_withBlockOf.mpr ⟨fun j hj => ?_, by simp [State.savedWritten, he']⟩
  rw [wordWritten_of_fetch he', hw, hk, ← wordWritten_of_fetch he] at hj
  rw [hword j hj, readBlk_congr hM]

/-- R214: the fault entry. -/
theorem est_of_getByte_sourceReadError {s u : State} {e : SrcErr} (hg : getByte s = .next u)
    (ha : u.answer = some (.sourceReadError e)) : u.est = .fault := by
  rcases getByte_next hg with ⟨-, -, rfl⟩ | ⟨_, -, -, rfl⟩ | ⟨-, -, rfl⟩ | ⟨_, -, -, rfl⟩ |
    ⟨-, -, rfl⟩ | ⟨-, -, rfl⟩ | ⟨-, rfl⟩ | ⟨-, rfl⟩ | ⟨-, rfl⟩
  case inr.inr.inr.inl => rfl
  all_goals simp at ha

theorem endOfDataAt_next {k : BitVec 2} {u t : State} (h : endOfDataAt k u = .next t) :
    k = 0 ∧ t = { u with est := .done } := by
  unfold endOfDataAt at h
  split at h
  · next h0 => cases h; exact ⟨h0, rfl⟩
  · cases h

/-- R140 to R146, R191: EN.FETCH. -/
theorem execEnFetch_withBlockOf {s t x : State} (he : s.est = .fetch)
    (h : s.agreeWhereWritten (s.withBlockOf x)) (hx : execEnFetch s = .next t) :
    ∃ t', execEnFetch (s.withBlockOf x) = .next t' ∧ t.agreeWhereWritten t' := by
  rw [execEnFetch_eq he] at hx
  rw [execEnFetch_eq (s := s.withBlockOf x) he]
  obtain ⟨u, hg, hu⟩ := byteStep_next hx
  simp only [byteStep, getByte_withBlockOf x hg, withBlockOf_answer]
  rcases hu with ⟨ha, rfl⟩ | ⟨b, ha, rfl⟩ | ⟨ha, hend⟩ | ⟨e, ha, rfl⟩
  · rw [ha]
    exact ⟨_, rfl, h⟩
  · rw [ha]
    obtain ⟨hM, hw, hk, -⟩ := getByte_frame hg
    have he' : u.clearAnswer.est = .fetch := (getByte_byte_frame hg ha).1.trans he
    exact ⟨_, rfl, agreeWhereWritten_takeByte b he'
      (agreeWhereWritten_of_fetch h he he' hM hw hk)⟩
  · rw [ha]
    obtain ⟨h0, rfl⟩ := endOfDataAt_next hend
    have h0' : (s.withBlockOf x).bytepos = 0 := h0
    rw [h0']
    exact ⟨_, rfl, agreeWhereWritten_of_nothing_written x (fun _ => rfl) rfl⟩
  · rw [ha]
    have hfault : u.est = .fault := est_of_getByte_sourceReadError hg ha
    exact ⟨_, rfl, agreeWhereWritten_of_nothing_written x
      (fun _ => by simp [State.wordWritten, hfault]) (by simp [State.savedWritten, hfault])⟩

/-- R160, R193: in the rounds all words and the saved registers are written; a round keeps them. -/
theorem agreeWhereWritten_roundStep {s x : State} (f : Word) (g : BitVec 4) (he : s.est = .round)
    (h : s.agreeWhereWritten (s.withBlockOf x)) :
    (roundStep f g s).agreeWhereWritten (roundStep f g (s.withBlockOf x)) := by
  obtain ⟨hword, hsaved⟩ := agreeWhereWritten_withBlockOf.mp h
  have hall : ∀ j, x.readBlk j = s.readBlk j := fun j => hword j (by simp [State.wordWritten, he])
  have hround : roundStep f g (s.withBlockOf x) = (roundStep f g s).withBlockOf x := by
    have hg : (s.withBlockOf x).readBlk g = s.readBlk g := hall g
    unfold roundStep
    rw [hg]
    rfl
  rw [hround]
  exact agreeWhereWritten_withBlockOf.mpr
    ⟨fun j _ => hall j, fun _ => hsaved (by simp [State.savedWritten, he])⟩

/-- The operation of `est`, from states that agree. -/
theorem exec_current_withBlockOf {s t x : State} (hinv : s.Inv)
    (h : s.agreeWhereWritten (s.withBlockOf x)) (hx : exec s.current s = .next t) :
    ∃ t', exec s.current (s.withBlockOf x) = .next t' ∧ t.agreeWhereWritten t' := by
  obtain ⟨hword, hsaved⟩ := agreeWhereWritten_withBlockOf.mp h
  rcases host_cases s with ⟨-, hc⟩ | ⟨-, hc⟩ | ⟨-, hc⟩ | ⟨hu, -⟩
  · rw [hc] at hx ⊢
    obtain ⟨hrst, hx⟩ := whenSelected_next hx
    cases hx
    exact ⟨s.applyReset, whenSelected_of hrst _ _,
      agreeWhereWritten_iff.mpr ⟨rfl, fun _ _ => rfl, fun _ => ⟨rfl, rfl, rfl, rfl⟩⟩⟩
  · rw [hc] at hx ⊢
    cases hx
    exact ⟨_, rfl, agreeWhereWritten_withBlockOf.mpr ⟨hword, hsaved⟩⟩
  · rw [hc] at hx ⊢
    cases hx
    exact ⟨_, rfl, agreeWhereWritten_withBlockOf.mpr ⟨hword, hsaved⟩⟩
  · rw [current_of_undisturbed hu] at hx ⊢
    cases he : s.est <;> simp only [he] at hx ⊢
    case fetch => exact execEnFetch_withBlockOf he h hx
    case save =>
      obtain ⟨hsel, hx⟩ := whenSelected_next hx
      cases hx
      refine ⟨_, whenSelected_of hsel _ _, agreeWhereWritten_iff.mpr ⟨rfl, fun j _ => ?_, ?_⟩⟩
      · exact hword j (by simp [State.wordWritten, he])
      · exact fun _ => ⟨rfl, rfl, rfl, rfl⟩
    case round =>
      rw [show exec .enRound s = execEnRound s from rfl, execEnRound_eq s he] at hx
      cases hx
      exact ⟨_, execEnRound_eq (s.withBlockOf x) he, agreeWhereWritten_roundStep _ _ he h⟩
    case chain =>
      obtain ⟨hsel, hx⟩ := whenSelected_next hx
      cases hx
      obtain ⟨hA, hB, hC, hD⟩ := hsaved (by simp [State.savedWritten, he])
      have hpos : s.wordpos = 0 ∧ s.bytepos = 0 := by
        obtain ⟨-, -, -, -, hengine, -⟩ := hinv
        simp only [State.engineInv, he] at hengine
        exact (pos_eq_append_iff (w := 0) (k := 0)).mp hengine.1
      have hchain : execEnChain (s.withBlockOf x) = .next (State.withBlockOf { s with
          A := s.A + s.A0, B := s.B + s.B0, C := s.C + s.C0, D := s.D + s.D0
          est := .fetch } x) := by
        rw [← hA, ← hB, ← hC, ← hD]
        exact whenSelected_of hsel _ _
      exact ⟨_, hchain, agreeWhereWritten_of_nothing_written x
        (fun j => by simp [State.wordWritten, hpos]) rfl⟩
    case done =>
      obtain ⟨hsel, hx⟩ := whenSelected_next hx
      cases hx
      exact ⟨_, whenSelected_of hsel _ _, h⟩
    case fault =>
      obtain ⟨hsel, hx⟩ := whenSelected_next hx
      cases hx
      exact ⟨_, whenSelected_of hsel _ _, h⟩

/-- Settles O54, by the operation of the step; HOST's action then passes in both runs. -/
theorem nothingReadsUnwrittenRegisters : Obligations.NothingReadsUnwrittenRegisters := by
  intro s s' t hinv h hstep
  obtain ⟨x, rfl⟩ := exists_withBlockOf h
  obtain ⟨u, hx, rfl⟩ := step_next hstep
  obtain ⟨u', hx', hagree⟩ := exec_current_withBlockOf hinv h hx
  exact ⟨_, step_of_exec (s := s.withBlockOf x) hx', agreeWhereWritten_advanceHost hagree⟩

end Sys2Proof.Machine
end

section
/-! PROOFS. The frame of the block buffer under a BA operation. -/

namespace Sys2Proof.Machine

/-- R149: ORing a byte into one lane leaves the other lanes. -/
theorem lane_or_intoLane_other (x : Word) (b : Byte) {j k : Nat} (h : j ≠ k) :
    lane (x ||| intoLane b k) j = lane x j := by
  apply BitVec.eq_of_getLsbD_eq
  intro i hi
  have hzero : 8 * k ≤ 8 * j + i → b.getLsbD (8 * j + i - 8 * k) = false := fun _ =>
    BitVec.getLsbD_of_ge b _ (by omega)
  simp +contextual [lane, intoLane, hi, hzero]

/-- R25, R149: a byte is stored in the lane of the position; at the first byte of a word the whole
word is replaced. -/
theorem blkByte_takeByte_other (u : State) (b : Byte) {a : BitVec 6} (ha : a ≠ u.pos)
    (h0 : u.bytepos = 0 → a.extractLsb' 2 4 ≠ u.wordpos) :
    (u.takeByte b).blkByte a = u.blkByte a := by
  unfold State.blkByte
  by_cases hw : a.extractLsb' 2 4 = u.wordpos
  · have hk : u.bytepos ≠ 0 := fun hk => h0 hk hw
    have hlane : (a.extractLsb' 0 2).toNat ≠ u.bytepos.toNat := by
      intro hlane
      have hparts : ∀ a : BitVec 6, a = a.extractLsb' 2 4 ++ a.extractLsb' 0 2 := by decide
      exact ha (by rw [hparts a, hw, BitVec.eq_of_toNat_eq hlane]; rfl)
    rw [hw, readBlk_takeByte_same, if_neg hk, lane_or_intoLane_other _ _ hlane]
  · rw [readBlk_takeByte_other _ _ hw]

/-- R25, R70: the frame of a BA operation, whatever its byte request answers. -/
theorem exec_baAt_blkByte {w : BitVec 4} {k : BitVec 2} {s t : State} {a : BitVec 6}
    (h : exec (baAt w k) s = .next t) (ha : a ≠ w ++ k) (h0 : k = 0 → a.extractLsb' 2 4 ≠ w) :
    t.blkByte a = s.blkByte a := by
  obtain ⟨he, rfl, rfl, hx⟩ := exec_baAt_next h
  rcases execEnFetch_next he hx with ⟨-, -, rfl⟩ | ⟨u, b, hg, -, rfl⟩ | ⟨-, -, rfl⟩ |
    ⟨_, -, -, rfl⟩
  · rfl
  · obtain ⟨hM, hw, hk, -⟩ := getByte_frame hg
    have hpos : u.pos = s.wordpos ++ s.bytepos := by rw [State.pos, hw, hk]
    rw [blkByte_takeByte_other u b (hpos ▸ ha) (by rw [hk, hw]; exact h0), State.blkByte,
      readBlk_congr hM, State.blkByte]
  · rfl
  · rfl

/-- Settles O23, from the frame of a BA operation at each byte position. -/
theorem assemblyStoresOnlyItsLane : Obligations.AssemblyStoresOnlyItsLane := by
  intro s t w a
  refine ⟨fun h hw => ?_, fun h ha => ?_, fun h ha => ?_, fun h ha => ?_⟩
  · refine exec_baAt_blkByte (k := 0) h (fun ha => hw ?_) fun _ => hw
    have hword : ∀ w : BitVec 4, (w ++ 0#2).extractLsb' 2 4 = w := by decide
    rw [ha]
    exact hword w
  · exact exec_baAt_blkByte (k := 1) h ha fun hk => absurd hk (by decide)
  · exact exec_baAt_blkByte (k := 2) h ha fun hk => absurd hk (by decide)
  · exact exec_baAt_blkByte (k := 3) h ha fun hk => absurd hk (by decide)

end Sys2Proof.Machine
end

section
/-! PROOFS. COMPRESS: the 66 steps from SAVE (R171). -/

namespace Sys2Proof.Machine

/-- The state `s` of SAVE with the registers saved and the Engine further on (R171). -/
def State.engineAt (s : State) (r : Regs) (i : BitVec 6) (e : Est) : State :=
  { s with
    A := r.a, B := r.b, C := r.c, D := r.d, A0 := s.A, B0 := s.B, C0 := s.C, D0 := s.D
    i := i, est := e }

/-- With HOST gone the step is the operation of `est` alone. -/
theorem step_of_exec_host_nil {s u : State} (hu : u.host = []) (h : exec s.current s = .next u) :
    step s = .next u := by
  have htail : u.host.tail = u.host := by rw [hu]; rfl
  rw [step_of_exec h, State.advanceHost, htail]

theorem undisturbed_of_host_nil {s : State} (hh : s.host = []) : s.undisturbed = true := by
  simp [State.undisturbed, hh]

theorem roundsRegs_succ (m : Vector Word 16) (n : Nat) (r : Regs) :
    roundsRegs m (n + 1) r = roundRegs m (BitVec.ofNat 6 n) (roundsRegs m n r) := rfl

section
variable {s : State} (hh : s.host = [])
include hh

/-- R192. -/
theorem step_of_save (he : s.est = .save) : step s = .next (s.engineAt s.regs 0 .round) := by
  refine step_of_exec_host_nil hh ?_
  rw [current_of_undisturbed (undisturbed_of_host_nil hh), he]
  exact whenSelected_of (by simp [he]) _ _

/-- R160, R193: a round on the four registers. -/
theorem step_engineAt_round (r : Regs) (i : BitVec 6) :
    step (s.engineAt r i .round) = .next (s.engineAt (roundRegs s.M i r)
      (if i = 63 then i else i + 1) (if i = 63 then .chain else .round)) := by
  refine step_of_exec_host_nil hh ?_
  rw [current_of_undisturbed (undisturbed_of_host_nil (by exact hh))]
  exact execEnRound_eq _ rfl

/-- R194: CHAIN adds the registers from before the rounds. -/
theorem step_engineAt_chain (r : Regs) (i : BitVec 6) :
    step (s.engineAt r i .chain) =
      .next (s.engineAt ⟨s.A + r.a, s.B + r.b, s.C + r.c, s.D + r.d⟩ i .fetch) := by
  refine step_of_exec_host_nil hh ?_
  rw [current_of_undisturbed (undisturbed_of_host_nil (by exact hh)), BitVec.add_comm s.A,
    BitVec.add_comm s.B, BitVec.add_comm s.C, BitVec.add_comm s.D]
  rfl

/-- R172: the rounds in index order, up to the last. -/
theorem run_rounds {n : Nat} (hn : n < 64) : core.run n (s.engineAt s.regs 0 .round) =
    .next (s.engineAt (roundsRegs s.M n s.regs) (BitVec.ofNat 6 n) .round) := by
  induction n with
  | zero => rfl
  | succ n ih =>
    have hne : BitVec.ofNat 6 n ≠ 63 := by
      simp [BitVec.toNat_eq, Nat.mod_eq_of_lt (show n < 64 by omega)]
      omega
    have hstep := step_engineAt_round hh (roundsRegs s.M n s.regs) (BitVec.ofNat 6 n)
    have hidx : BitVec.ofNat 6 n + 1 = BitVec.ofNat 6 (n + 1) := (BitVec.ofNat_add n 1).symm
    rw [if_neg hne, if_neg hne, ← roundsRegs_succ, hidx] at hstep
    rw [run_add core n 1 _ _ (ih (by omega))]
    exact run_succ core hstep

/-- R171: the last round and CHAIN. -/
theorem run_last_round_and_chain : core.run 2 (s.engineAt (roundsRegs s.M 63 s.regs) 63 .round) =
    .next (s.engineAt (compress s.M s.regs) 63 .fetch) := by
  have hlast := step_engineAt_round hh (roundsRegs s.M 63 s.regs) 63
  rw [if_pos rfl, if_pos rfl] at hlast
  have hround : roundsRegs s.M 64 s.regs = roundRegs s.M 63 (roundsRegs s.M 63 s.regs) :=
    roundsRegs_succ s.M 63 s.regs
  rw [← hround] at hlast
  rw [run_succ core hlast]
  exact run_succ core (step_engineAt_chain hh _ _)

end

/-- Settles O58: SAVE, the rounds by induction on their number, CHAIN. -/
theorem compressFoldsOneBlock : Obligations.CompressFoldsOneBlock := by
  intro s he hh
  have hrounds : core.run (63 + 2) (s.engineAt s.regs 0 .round) = _ :=
    (run_add core 63 2 _ _ (run_rounds hh (by omega))).trans (run_last_round_and_chain hh)
  have hrun : core.run 66 s = .next (s.engineAt (compress s.M s.regs) 63 .fetch) :=
    (run_succ core (step_of_save hh he)).trans hrounds
  exact ⟨_, hrun, rfl, rfl, rfl⟩

end Sys2Proof.Machine
end

section
/-! PROOFS. The tables, the status and RESET of 10_state.md, and the length of the padded
stream. -/

namespace Sys2Proof.Machine

/-- Settles O31: the two tables are evaluated row by row. -/
theorem roundOperandsAreTheTables : Obligations.RoundOperandsAreTheTables := by
  unfold Obligations.RoundOperandsAreTheTables
  decide

/-- Settles O36. -/
theorem chainAddsTheSavedValues : Obligations.ChainAddsTheSavedValues :=
  ⟨rfl, fun _ he => whenSelected_of (by simp [he]) _ _⟩

/-- Settles O47, by the six states of the sequencer. -/
theorem exactlyOneStatusHolds : Obligations.ExactlyOneStatusHolds := by
  intro s
  have hbusy : s.stepEnabled = true → s.busy = true := fun h => by
    simp only [State.stepEnabled, Bool.and_eq_true] at h
    exact h.1
  refine ⟨?_, ?_, ?_, ?_, ?_, hbusy⟩
  · simp [State.busy, or_assoc]
  · simp [State.digestValid]
  · simp [State.faultFlag]
  · simp [State.eod]
  · cases he : s.est <;> simp [State.busy, State.digestValid, State.faultFlag, he]

theorem execReset_of_rst {s : State} (h : s.host.head? = some .rst) :
    execReset s = .next s.applyReset := whenSelected_of (by simp [State.rst, h]) _ _

/-- Settles O48: what RESET answers is made of the inputs and of `State.reset`. -/
theorem resetMakesAFreshInstance : Obligations.ResetMakesAFreshInstance := by
  refine ⟨rfl, fun s h => ⟨s.applyReset, execReset_of_rst h, ?_⟩, fun s s' h hsrc hhost => ?_⟩
  · exact ⟨rfl, rfl, rfl, rfl, rfl, rfl, rfl, rfl, rfl, rfl, rfl, rfl, rfl, rfl, rfl, rfl, rfl,
      rfl, rfl, rfl, rfl⟩
  · show execReset s = execReset s'
    rw [execReset_of_rst h, execReset_of_rst (hhost ▸ h), State.applyReset, State.applyReset,
      hsrc, hhost]

/-- R42, R130: the parts of the padded stream. -/
theorem length_paddedStream (msg : List Byte) :
    (paddedStream msg).length = msg.length + 1 + zeroCount msg.length + 8 := by
  simp [paddedStream, lengthField]
  omega

/-- R42: message, terminator, zeroes and length fill whole blocks. -/
theorem zeroCount_add_mod (n : Nat) : (zeroCount n + n) % 64 = 55 := by
  unfold zeroCount
  omega

theorem length_eq_blocks (n : Nat) : n + 1 + zeroCount n + 8 = 64 * blockCount n := by
  unfold zeroCount blockCount
  omega

/-- Settles O55. -/
theorem paddedLengthIsWholeBlocks : Obligations.PaddedLengthIsWholeBlocks := fun msg =>
  ⟨length_paddedStream msg, (length_paddedStream msg).trans (length_eq_blocks _),
    zeroCount_add_mod _⟩

end Sys2Proof.Machine
end

section
/-! PROOFS. "Written by" (R20 to R30): every register that an operation changes has one of its
writers among the operations performed. -/

namespace Sys2Proof.Machine

/-- Each register that differs between `s` and `t` has one of its writers in `ws` (R20 to R30). -/
structure WrittenBy (ws : List Instr) (s t : State) : Prop where
  phase : t.phase ≠ s.phase → ∃ w ∈ ws,
    w = .pbStreamEos ∨ w = .pbPadzLen ∨ w = .pbLenlo ∨ w = .pbLenhi
  bitcnt : t.bitcnt ≠ s.bitcnt → ∃ w ∈ ws, w = .pbStreamByte ∨ w = .pbStreamEos ∨ w = .pbPadzZero
  origlen : t.origlen ≠ s.origlen → .pbStreamEos ∈ ws
  sub : t.sub ≠ s.sub → ∃ w ∈ ws, w = .pbPadzLen ∨ w = .pbLenlo ∨ w = .pbLenhi
  pos : t.pos ≠ s.pos → ∃ w ∈ ws, (selectorOf w).format = .ba
  block : t.M ≠ s.M → ∃ w ∈ ws, (selectorOf w).format = .ba
  regs : t.regs ≠ s.regs → ∃ w ∈ ws, (selectorOf w).format = .rnd ∨ w = .enChain
  saved : (t.A0, t.B0, t.C0, t.D0) ≠ (s.A0, s.B0, s.C0, s.D0) → .enSave ∈ ws
  index : t.i ≠ s.i → ∃ w ∈ ws, (selectorOf w).format = .rnd ∨ w = .enSave
  est : t.est ≠ s.est → ∃ w ∈ ws,
    (∃ n, w = .baB0 n) ∨ (∃ n, w = .baB3 n) ∨ w = .pbStreamFail ∨ w = .enSave ∨
      (∃ n, w = .rndI n ∧ s.i = 63) ∨ w = .enChain
  fault : (t.faultCode, t.errInfo) ≠ (s.faultCode, s.errInfo) → .pbStreamFail ∈ ws
  src : t.src ≠ s.src → ∃ w ∈ ws, w = .pbStreamByte ∨ w = .pbStreamEos ∨ w = .pbStreamFail

theorem exists_mem_mono {ws ws' : List Instr} (hsub : ws ⊆ ws') {P : Instr → Prop}
    (h : ∃ w ∈ ws, P w) : ∃ w ∈ ws', P w :=
  h.imp fun _ hw => ⟨hsub hw.1, hw.2⟩

/-- Performing more operations names no fewer writers. -/
theorem WrittenBy.mono {ws ws' : List Instr} {s t : State} (h : WrittenBy ws s t)
    (hsub : ws ⊆ ws') : WrittenBy ws' s t where
  phase hne := exists_mem_mono hsub (h.phase hne)
  bitcnt hne := exists_mem_mono hsub (h.bitcnt hne)
  origlen hne := hsub (h.origlen hne)
  sub hne := exists_mem_mono hsub (h.sub hne)
  pos hne := exists_mem_mono hsub (h.pos hne)
  block hne := exists_mem_mono hsub (h.block hne)
  regs hne := exists_mem_mono hsub (h.regs hne)
  saved hne := hsub (h.saved hne)
  index hne := exists_mem_mono hsub (h.index hne)
  est hne := exists_mem_mono hsub (h.est hne)
  fault hne := hsub (h.fault hne)
  src hne := exists_mem_mono hsub (h.src hne)

/-- Where only HOST's side and the wire change, no writer is needed. -/
theorem writtenBy_of_sameRegisters {s t : State} (ws : List Instr)
    (h : t = { s with
      host := t.host, answer := t.answer, dgRead := t.dgRead, hexRead := t.hexRead }) :
    WrittenBy ws s t := by
  rw [h]
  constructor <;> exact fun hne => absurd rfl hne

/-! ### The PB operations -/

/-- R65, R123: a pull that answers a next state is not answered, or is the operation's own case. -/
theorem onPull_next {s t : State} {k : SrcAnswer → Out} (h : onPull s k = .next t) :
    t = s ∨ ∃ a, k a = .next t := by
  unfold onPull at h
  split at h
  · cases h; exact .inl rfl
  · cases h
  all_goals exact .inr ⟨_, h⟩

/-- The operations of format PB (R91). -/
def pbInstrs : List Instr :=
  [.pbStreamByte, .pbStreamEos, .pbStreamFail, .pbPadzZero, .pbPadzLen, .pbLenlo, .pbLenhi, .pbExh]

/-- R119 to R128: a PB operation is the writer of what it changes. -/
theorem writtenBy_execPb {i : Instr} {s t : State} (hi : i ∈ pbInstrs) (h : exec i s = .next t) :
    WrittenBy [i] s t := by
  simp only [pbInstrs, List.mem_cons, List.not_mem_nil, or_false] at hi
  rcases hi with rfl | rfl | rfl | rfl | rfl | rfl | rfl | rfl <;>
    obtain ⟨-, h⟩ := whenSelected_next h
  · rcases onPull_next h with rfl | ⟨a, ha⟩
    · exact writtenBy_of_sameRegisters _ rfl
    · cases a <;> cases ha
      constructor <;> simp [State.pos, State.regs]
  · rcases onPull_next h with rfl | ⟨a, ha⟩
    · exact writtenBy_of_sameRegisters _ rfl
    · cases a <;> cases ha
      constructor <;> simp [State.pos, State.regs]
  · rcases onPull_next h with rfl | ⟨a, ha⟩
    · exact writtenBy_of_sameRegisters _ rfl
    · cases a <;> cases ha
      constructor <;> simp [State.pos, State.regs]
  all_goals
    cases h
    constructor <;> simp [State.pos, State.regs]

/-- R91: the selector of a byte request in `Streaming`. -/
theorem byteRequest_of_streaming {s : State} {a : SrcAnswer} (hp : s.phase = .streaming)
    (hs : s.src.head? = some a) :
    s.byteRequest = selected .pb (0#3 ++ kindCode a ++ BitVec.ofBool s.at448) := by
  simp [State.byteRequest, State.psel, hp, hs, phaseCode]

/-- R91: the selector of a byte request after it. -/
theorem byteRequest_of_ne_streaming {s : State} (hp : s.phase ≠ .streaming) :
    s.byteRequest = selected .pb (phaseCode s.phase ++ 0#2 ++ BitVec.ofBool s.at448) := by
  cases hph : s.phase <;> simp_all [State.byteRequest, State.psel]

theorem selected_pb_streaming (a : BitVec 1) :
    selected .pb (0#3 ++ 0#2 ++ a) = [.pbStreamByte] ∧
    selected .pb (0#3 ++ 1#2 ++ a) = [.pbStreamEos] ∧
    selected .pb (0#3 ++ 2#2 ++ a) = [.pbStreamFail] := by
  revert a; decide

theorem selected_pb_padding :
    selected .pb (1#3 ++ 0#2 ++ 0#1) = [.pbPadzZero] ∧
    selected .pb (1#3 ++ 0#2 ++ 1#1) = [.pbPadzLen] := by decide

theorem selected_pb_length_exhausted (a : BitVec 1) :
    selected .pb (2#3 ++ 0#2 ++ a) = [.pbLenlo] ∧
    selected .pb (3#3 ++ 0#2 ++ a) = [.pbLenhi] ∧
    selected .pb (4#3 ++ 0#2 ++ a) = [.pbExh] := by
  revert a; decide

/-- R101 rule 4: a byte request is not answered, or is the one PB operation of `psel`. -/
theorem getByte_runs_byteRequest {s u : State} (hg : getByte s = .next u) :
    u = s.clearAnswer ∨
    ∃ i ∈ pbInstrs, s.byteRequest = [i] ∧ exec i s.clearAnswer = .next u := by
  have hat : s.clearAnswer.at448 = s.at448 := rfl
  obtain ⟨hbyte, heos, hfail⟩ := selected_pb_streaming (BitVec.ofBool s.at448)
  obtain ⟨hlow, hhigh, hexh⟩ := selected_pb_length_exhausted (BitVec.ofBool s.at448)
  cases hp : s.phase with
  | streaming =>
    cases hs : s.src.head? with
    | none => simp [getByte, hp, hs] at hg; exact .inl hg.symm
    | some a =>
      refine .inr ?_
      rw [byteRequest_of_streaming hp hs]
      cases a <;> simp [getByte, hp, hs] at hg
      case byte => exact ⟨_, by simp [pbInstrs], hbyte, hg⟩
      case eos => exact ⟨_, by simp [pbInstrs], heos, hg⟩
      case fail => exact ⟨_, by simp [pbInstrs], hfail, hg⟩
  | paddingZeroes =>
    refine .inr ?_
    rw [byteRequest_of_ne_streaming (by simp [hp]), hp]
    cases h448 : s.at448 <;> simp [getByte, hp, hat, h448] at hg
    case false => exact ⟨_, by simp [pbInstrs], selected_pb_padding.1, hg⟩
    case true => exact ⟨_, by simp [pbInstrs], selected_pb_padding.2, hg⟩
  | lengthLow =>
    simp [getByte, hp] at hg
    rw [byteRequest_of_ne_streaming (by simp [hp]), hp]
    exact .inr ⟨_, by simp [pbInstrs], hlow, hg⟩
  | lengthHigh =>
    simp [getByte, hp] at hg
    rw [byteRequest_of_ne_streaming (by simp [hp]), hp]
    exact .inr ⟨_, by simp [pbInstrs], hhigh, hg⟩
  | exhausted =>
    simp [getByte, hp] at hg
    rw [byteRequest_of_ne_streaming (by simp [hp]), hp]
    exact .inr ⟨_, by simp [pbInstrs], hexh, hg⟩

/-- R119, R134: what a byte request changes is written by the operation it performs. -/
theorem writtenBy_getByte {s u : State} (hg : getByte s = .next u) :
    WrittenBy s.byteRequest s u := by
  rcases getByte_runs_byteRequest hg with rfl | ⟨i, hi, hreq, hx⟩
  · exact writtenBy_of_sameRegisters _ rfl
  · rw [hreq]
    have hw := writtenBy_execPb hi hx
    exact ⟨hw.phase, hw.bitcnt, hw.origlen, hw.sub, hw.pos, hw.block, hw.regs, hw.saved, hw.index,
      hw.est, hw.fault, hw.src⟩

/-! ### The BA operations and EN.FETCH -/

/-- R94, R101: EN.FETCH performs the BA operation of its position. -/
theorem selected_ba (w : BitVec 4) (k : BitVec 2) : selected .ba (w ++ k) = [baAt w k] := by
  revert w k; decide

theorem performs_baAt (s : State) (w : BitVec 4) (k : BitVec 2) :
    s.performs (baAt w k) = baAt w k :: s.byteRequest := by
  rcases bytepos_cases k with rfl | rfl | rfl | rfl <;> rfl

theorem format_baAt (w : BitVec 4) (k : BitVec 2) : (selectorOf (baAt w k)).format = .ba := by
  rcases bytepos_cases k with rfl | rfl | rfl | rfl <;> rfl

/-- R141 to R144: a byte taken writes the block, the position and, after the last, `est`; the rest
is its byte request's. -/
theorem writtenBy_takeByte {s u : State} {b : Byte} (hg : getByte s = .next u)
    (ha : u.answer = some (.byte b)) :
    WrittenBy (baAt s.wordpos s.bytepos :: s.byteRequest) s (u.takeByte b) := by
  obtain ⟨-, -, hk, -⟩ := getByte_frame hg
  have hw := (writtenBy_getByte hg).mono (List.subset_cons_self (baAt s.wordpos s.bytepos) _)
  have hba : ∃ w ∈ baAt s.wordpos s.bytepos :: s.byteRequest, (selectorOf w).format = .ba :=
    ⟨_, List.mem_cons_self, format_baAt _ _⟩
  refine ⟨hw.phase, hw.bitcnt, hw.origlen, hw.sub, fun _ => hba, fun _ => hba, hw.regs, hw.saved,
    hw.index, fun hne => ?_, hw.fault, hw.src⟩
  by_cases hlast : u.wordpos = 15 ∧ u.bytepos = 3
  · exact ⟨_, List.mem_cons_self, .inr (.inl ⟨s.wordpos, by rw [← hk, hlast.2]; rfl⟩)⟩
  · rw [State.takeByte_est, if_neg hlast] at hne
    exact absurd (getByte_byte_frame hg ha).1 hne

/-- R141: EndOfData at the first byte of a word. -/
theorem writtenBy_endOfData (s : State) (w : BitVec 4) :
    WrittenBy [.baB0 w] s { s with est := .done, answer := none } := by
  constructor <;> simp [State.pos, State.regs]

/-- R146, R214: the fault entry is PB.STREAM.FAIL's alone. -/
theorem writtenBy_sourceReadError (s : State) (e : SrcErr) :
    WrittenBy [.pbStreamFail] s { s with
      src := s.src.rest, est := .fault, faultCode := .sourceReadError, errInfo := some e,
      answer := none } := by
  constructor <;> simp [State.pos, State.regs]

/-- R140 to R146: what a BA operation changes is written by it or by its byte request. -/
theorem writtenBy_baAt {s t : State} {w : BitVec 4} {k : BitVec 2}
    (h : exec (baAt w k) s = .next t) : WrittenBy (s.performs (baAt w k)) s t := by
  rw [performs_baAt]
  obtain ⟨he, rfl, rfl, hx⟩ := exec_baAt_next h
  rcases execEnFetch_next he hx with ⟨-, -, rfl⟩ | ⟨u, b, hg, ha, rfl⟩ | ⟨-, hb, rfl⟩ |
    ⟨e, hp, hs, rfl⟩
  · exact writtenBy_of_sameRegisters _ rfl
  · exact writtenBy_takeByte hg ha
  · have hop : baAt s.wordpos s.bytepos = .baB0 s.wordpos := by rw [hb]; rfl
    exact (writtenBy_endOfData s s.wordpos).mono (by simp [hop])
  · have hreq : s.byteRequest = [.pbStreamFail] :=
      (byteRequest_of_streaming hp hs).trans (selected_pb_streaming _).2.2
    exact (writtenBy_sourceReadError s e).mono (by simp [hreq])

/-- R191: EN.FETCH performs what its BA operation performs. -/
theorem writtenBy_enFetch {s t : State} (h : exec .enFetch s = .next t) :
    WrittenBy (s.performs .enFetch) s t := by
  have he : s.est = .fetch := by simpa using (whenSelected_next h).1
  have hx : exec (baAt s.wordpos s.bytepos) s = .next t :=
    (execEnFetch_eq_exec_baAt he).symm.trans h
  refine (writtenBy_baAt hx).mono ?_
  rw [performs_baAt, State.performs, State.pos, selected_ba]
  exact List.subset_cons_self _ _

/-! ### The RND operations and EN.ROUND -/

/-- R160: a round writes A to D and `i`, and `est` at `i = 63`, where it is RND.I. -/
theorem writtenBy_roundStep {s : State} {i : Instr} (f : Word) (g : BitVec 4)
    (hf : (selectorOf i).format = .rnd) (hlast : s.i = 63 → i = .rndI 63) :
    WrittenBy [i] s (roundStep f g s) := by
  have hrnd : ∃ w ∈ [i], (selectorOf w).format = .rnd := ⟨i, List.mem_singleton_self i, hf⟩
  have hest : (roundStep f g s).est ≠ s.est → i = .rndI 63 ∧ s.i = 63 := fun hne => by
    have h63 : s.i = 63 := by
      by_contra h63
      exact hne (if_neg h63)
    exact ⟨hlast h63, h63⟩
  constructor
  case regs => exact fun _ => hrnd.imp fun _ hw => ⟨hw.1, .inl hw.2⟩
  case index => exact fun _ => hrnd.imp fun _ hw => ⟨hw.1, .inl hw.2⟩
  case est =>
    intro hne
    obtain ⟨rfl, h63⟩ := hest hne
    exact ⟨_, List.mem_singleton_self _, .inr (.inr (.inr (.inr (.inl ⟨63, rfl, h63⟩))))⟩
  all_goals exact fun hne => absurd rfl hne

/-- R93: the control point of a RND operation. -/
theorem inRound_iff {s : State} {q : BitVec 2} {n : BitVec 6} :
    s.inRound q n = true ↔ s.est = .round ∧ s.i = n ∧ quarterOf s.i = q := by
  simp [State.inRound, and_assoc]

/-- R161 to R164: what the RND operation of quarter `q` changes it writes itself. -/
theorem writtenBy_execRnd {s t : State} {op : Instr} {q : BitVec 2} {n : BitVec 6} {m : String}
    {f : Word} {g : BitVec 4} (hf : (selectorOf op).format = .rnd) (hq : q = 3 → op = .rndI n)
    (h : whenSelected (s.inRound q n) m (.next (roundStep f g s)) = .next t) :
    WrittenBy [op] s t := by
  obtain ⟨hsel, h⟩ := whenSelected_next h
  cases h
  obtain ⟨-, hi, hquarter⟩ := inRound_iff.mp hsel
  refine writtenBy_roundStep f g hf fun h63 => ?_
  rw [h63] at hi hquarter
  rw [hq hquarter.symm, hi]

/-- R93, R101: EN.ROUND performs one RND operation, and RND.I in round 63. -/
theorem selected_rnd (i : BitVec 6) : ∃ op, selected .rnd i = [op] ∧
    (selectorOf op).format = .rnd ∧ (i = 63 → op = .rndI 63) := by
  rcases quarter_cases i with ⟨h, hi⟩ | ⟨h, -, hi⟩ | ⟨h, -, -, hi⟩ | ⟨h, -, -, -⟩
  · exact ⟨.rndF i, by simp [selected, decodeSelector, decodeRnd, h], rfl, by bv_omega⟩
  · exact ⟨.rndG i, by simp [selected, decodeSelector, decodeRnd, h], rfl, by bv_omega⟩
  · exact ⟨.rndH i, by simp [selected, decodeSelector, decodeRnd, h], rfl, by bv_omega⟩
  · exact ⟨.rndI i, by simp [selected, decodeSelector, decodeRnd, h], rfl, fun h63 => by rw [h63]⟩

theorem writtenBy_enRound {s t : State} (h : exec .enRound s = .next t) :
    WrittenBy (s.performs .enRound) s t := by
  have he : s.est = .round := by simpa using (whenSelected_next h).1
  obtain ⟨op, hop, hf, hlast⟩ := selected_rnd s.i
  have ht := h.symm.trans (execEnRound_eq s he)
  cases ht
  refine (writtenBy_roundStep _ _ hf hlast).mono ?_
  rw [State.performs, hop]
  exact List.subset_cons_self _ _

/-- Every operation but RESET. -/
theorem writtenBy_performs {i : Instr} {s t : State} (h : exec i s = .next t) (hne : i ≠ .reset) :
    WrittenBy (s.performs i) s t := by
  cases i with
  | pbStreamByte => exact writtenBy_execPb (by simp [pbInstrs]) h
  | pbStreamEos => exact writtenBy_execPb (by simp [pbInstrs]) h
  | pbStreamFail => exact writtenBy_execPb (by simp [pbInstrs]) h
  | pbPadzZero => exact writtenBy_execPb (by simp [pbInstrs]) h
  | pbPadzLen => exact writtenBy_execPb (by simp [pbInstrs]) h
  | pbLenlo => exact writtenBy_execPb (by simp [pbInstrs]) h
  | pbLenhi => exact writtenBy_execPb (by simp [pbInstrs]) h
  | pbExh => exact writtenBy_execPb (by simp [pbInstrs]) h
  | baB0 w => exact writtenBy_baAt (k := 0) h
  | baB1 w => exact writtenBy_baAt (k := 1) h
  | baB2 w => exact writtenBy_baAt (k := 2) h
  | baB3 w => exact writtenBy_baAt (k := 3) h
  | enFetch => exact writtenBy_enFetch h
  | enRound => exact writtenBy_enRound h
  | rndF n => exact writtenBy_execRnd rfl (fun hq => absurd hq (by decide)) h
  | rndG n => exact writtenBy_execRnd rfl (fun hq => absurd hq (by decide)) h
  | rndH n => exact writtenBy_execRnd rfl (fun hq => absurd hq (by decide)) h
  | rndI n => exact writtenBy_execRnd rfl (fun _ => rfl) h
  | enSave =>
    obtain ⟨-, h⟩ := whenSelected_next h
    cases h
    constructor <;> simp [State.pos, State.regs, State.performs]
  | enChain =>
    obtain ⟨-, h⟩ := whenSelected_next h
    cases h
    constructor <;> simp [State.pos, State.regs, State.performs]
  | enDone =>
    obtain ⟨-, h⟩ := whenSelected_next h
    cases h
    exact writtenBy_of_sameRegisters _ rfl
  | enFault =>
    obtain ⟨-, h⟩ := whenSelected_next h
    cases h
    exact writtenBy_of_sameRegisters _ rfl
  | outDigest => cases h; exact writtenBy_of_sameRegisters _ rfl
  | outHex => cases h; exact writtenBy_of_sameRegisters _ rfl
  | reset => exact absurd rfl hne

/-- Settles O43, clause by clause from `writtenBy_performs`. -/
theorem registersHaveTheirWriters : Obligations.RegistersHaveTheirWriters := by
  intro i s t h hne
  have hw := writtenBy_performs h hne
  exact ⟨hw.phase, hw.bitcnt, hw.origlen, hw.sub, hw.pos, hw.block, hw.regs, hw.saved, hw.index,
    hw.est, hw.fault, hw.src⟩

end Sys2Proof.Machine
end

section
/-! PROOFS. The byte requests of `Streaming` and the readings of HOST, one equation for each answer
(R65, R83, R120, R122). -/

namespace Sys2Proof.Machine

/-! ### A byte request in `Streaming` -/

section
variable {s : State}

/-- R65: not answered, a byte request leaves the wire empty. -/
theorem getByte_of_silent (hp : s.phase = .streaming) (hs : s.src.head? = none) :
    getByte s = .next s.clearAnswer := by
  simp [getByte, hp, hs]

/-- R120. -/
theorem getByte_of_byte {b : Byte} (hp : s.phase = .streaming)
    (hs : s.src.head? = some (.byte b)) :
    getByte s = .next (s.popSrc.countByte.deliver (.byte b)) := by
  simp [getByte, hp, hs, execPbStreamByte, onPull, State.popSrc, State.countByte, State.deliver,
    State.clearAnswer]

/-- R122. -/
theorem getByte_of_fail {e : SrcErr} (hp : s.phase = .streaming)
    (hs : s.src.head? = some (.fail e)) :
    getByte s = .next ((s.popSrc.raiseSourceReadError e).deliver (.sourceReadError e)) := by
  simp [getByte, hp, hs, execPbStreamFail, onPull, State.popSrc, State.raiseSourceReadError,
    State.deliver, State.clearAnswer]

/-! ### EN.FETCH in `Streaming` -/

variable (he : s.est = .fetch) (hp : s.phase = .streaming)
include he hp

/-- R65: the step has not been taken. -/
theorem execEnFetch_of_silent (hs : s.src.head? = none) : execEnFetch s = .next s := by
  rw [execEnFetch_eq he, byteStep, getByte_of_silent hp hs]
  rfl

/-- R140 to R144: a byte from SRC is counted and taken at the position. -/
theorem execEnFetch_of_byte {b : Byte} (hs : s.src.head? = some (.byte b)) :
    execEnFetch s = .next (s.popSrc.countByte.takeByte b) := by
  rw [execEnFetch_eq he, byteStep, getByte_of_byte hp hs]
  rfl

/-- R146, R214: a failure of SRC at any position. -/
theorem execEnFetch_of_fail {e : SrcErr} (hs : s.src.head? = some (.fail e)) :
    execEnFetch s = .next (s.popSrc.raiseSourceReadError e).clearAnswer := by
  rw [execEnFetch_eq he, byteStep, getByte_of_fail hp hs]
  rfl

end

/-! ### The step -/

/-- R101 rule 2, R190. -/
theorem exec_current_of_fetch {s : State} (hu : s.undisturbed = true) (he : s.est = .fetch) :
    exec s.current s = execEnFetch s := by
  rw [current_of_undisturbed hu, he]
  rfl

/-- R101 rule 1, R240. -/
theorem step_of_rst {s : State} (hh : s.host.head? = some .rst) :
    step s = .next s.applyReset.advanceHost := by
  refine step_of_exec ?_
  rw [show s.current = .reset by simp [State.current, hh]]
  exact execReset_of_rst hh

/-- Settles O9: the pull is held by EN.FETCH, and RESET finds the source silent, as it leaves it. -/
theorem unansweredPullHoldsTheCore : Obligations.UnansweredPullHoldsTheCore := by
  intro s he hp hs
  refine ⟨fun hu => ?_, fun hh => ?_⟩
  · have hx := exec_current_of_fetch hu he
    rw [execEnFetch_of_silent he hp hs] at hx
    exact step_of_exec hx
  · rw [step_of_rst hh, State.applyReset, Source.head?_eq_none.mp hs]
    rfl

/-- Settles O44: the four lanes of each register are its bits from 0, 8, 16 and 24 on. -/
theorem digestIsTheRegistersLittleEndian : Obligations.DigestIsTheRegistersLittleEndian :=
  fun _ => rfl

/-- Settles O46: the step is the output function that HOST's action selects. -/
theorem readingOutputsHasNoSideEffect : Obligations.ReadingOutputsHasNoSideEffect := by
  intro s
  constructor
  · intro hh
    have hc : s.current = .outDigest := by simp [State.current, hh]
    exact step_of_exec (by rw [hc]; rfl)
  · intro hh
    have hc : s.current = .outHex := by simp [State.current, hh]
    exact step_of_exec (by rw [hc]; rfl)

end Sys2Proof.Machine
end

section
/-! PROOFS. The transitions of the phase (R129), of the sequencer (R199) and of the source (R63 to R66)
over one step. Only EN.FETCH moves the phase and the source; what is proved of it first is what its byte
request does. -/

namespace Sys2Proof.Machine

/-- R129: the phase after a byte request of `s` that has a meaning. -/
def State.nextPhase (s : State) : Phase :=
  match s.phase with
  | .streaming => if s.src.head? = some .eos then .paddingZeroes else .streaming
  | .paddingZeroes => if s.bitcnt.toNat % 512 = 448 then .lengthLow else .paddingZeroes
  | .lengthLow => if s.sub = 3 then .lengthHigh else .lengthLow
  | .lengthHigh => if s.sub = 3 then .exhausted else .lengthHigh
  | .exhausted => .exhausted

/-- R64: the source after a FETCH step. -/
def State.srcAfterFetch (s : State) : Source := if s.phase = .streaming then s.src.rest else s.src

/-! ### The byte request -/

section
variable {s u : State} (hg : getByte s = .next u)
include hg

/-- R120 to R129. -/
theorem getByte_phase : u.phase = s.nextPhase := by
  unfold State.nextPhase
  rcases getByte_next hg with ⟨hp, hs, rfl⟩ | ⟨_, hp, hs, rfl⟩ | ⟨hp, hs, rfl⟩ |
    ⟨_, hp, hs, rfl⟩ | ⟨hp, h448, rfl⟩ | ⟨hp, h448, rfl⟩ | ⟨hp, rfl⟩ | ⟨hp, rfl⟩ | ⟨hp, rfl⟩
  · simp [hp, hs]
  · simp [hp, hs]
  · simp [hp, hs]
  · simp [hp, hs]
  · simp [hp, (at448_eq_false_iff s).mp h448]
  · simp [hp, (at448_iff s).mp h448]
  all_goals simp [hp]

/-- R64, R66: a byte request takes one answer of SRC in `Streaming`, and none elsewhere. -/
theorem getByte_src : u.src = s.srcAfterFetch := by
  unfold State.srcAfterFetch
  rcases getByte_next hg with ⟨hp, hs, rfl⟩ | ⟨_, hp, -, rfl⟩ | ⟨hp, -, rfl⟩ |
    ⟨_, hp, -, rfl⟩ | ⟨hp, -, rfl⟩ | ⟨hp, -, rfl⟩ | ⟨hp, rfl⟩ | ⟨hp, rfl⟩ | ⟨hp, rfl⟩
  · simp [hp, Source.head?_eq_none.mp hs]
  all_goals simp [hp]

/-- R118: a byte on the wire comes from a Reader that is not exhausted, and whose source, if it was
pulled, answered and did not fail. -/
theorem getByte_answers_byte {b : Byte} (ha : u.answer = some (.byte b)) :
    s.phase ≠ .exhausted ∧ ¬(s.phase = .streaming ∧ s.src.head? = none) ∧
      ¬(s.phase = .streaming ∧ s.src.head?.map kindCode = some 2) := by
  rcases getByte_next hg with ⟨-, -, rfl⟩ | ⟨_, hp, hs, rfl⟩ | ⟨hp, hs, rfl⟩ |
    ⟨_, -, -, rfl⟩ | ⟨hp, -, rfl⟩ | ⟨hp, -, rfl⟩ | ⟨hp, rfl⟩ | ⟨hp, rfl⟩ | ⟨-, rfl⟩
  · simp at ha
  · simp [hp, hs, kindCode]
  · simp [hp, hs, kindCode]
  · simp at ha
  · simp [hp]
  · simp [hp]
  · simp [hp]
  · simp [hp]
  · simp at ha

end

/-! ### EN.FETCH -/

section
variable {s t : State} (he : s.est = .fetch) (hx : execEnFetch s = .next t)
include he hx

theorem execEnFetch_phase : t.phase = s.nextPhase := by
  rcases execEnFetch_next he hx with ⟨hp, hs, rfl⟩ | ⟨u, b, hg, -, rfl⟩ | ⟨hp, -, rfl⟩ |
    ⟨e, hp, hs, rfl⟩
  · simp [State.nextPhase, hp, hs]
  · rw [State.takeByte_phase, getByte_phase hg]
  · simp [State.nextPhase, hp]
  · simp [State.nextPhase, hp, hs]

theorem execEnFetch_src : t.src = s.srcAfterFetch := by
  rcases execEnFetch_next he hx with ⟨hp, hs, rfl⟩ | ⟨u, b, hg, -, rfl⟩ | ⟨hp, -, rfl⟩ |
    ⟨e, hp, -, rfl⟩
  · simp [State.srcAfterFetch, hp, Source.head?_eq_none.mp hs]
  · rw [State.takeByte_src, getByte_src hg]
  · simp [State.srcAfterFetch, hp]
  · simp [State.srcAfterFetch, hp]

/-- R199, the row of FETCH. -/
theorem execEnFetch_est : t.est =
    if s.phase = .exhausted then .done
    else if s.phase = .streaming ∧ s.src.head? = none then .fetch
    else if s.phase = .streaming ∧ s.src.head?.map kindCode = some 2 then .fault
    else if s.wordpos = 15 ∧ s.bytepos = 3 then .save
    else .fetch := by
  rcases execEnFetch_next he hx with ⟨hp, hs, rfl⟩ | ⟨u, b, hg, ha, rfl⟩ | ⟨hp, -, rfl⟩ |
    ⟨e, hp, hs, rfl⟩
  · simp [hp, hs, he]
  · obtain ⟨hexh, hnone, hfail⟩ := getByte_answers_byte hg ha
    obtain ⟨-, hw, hk, -⟩ := getByte_frame hg
    rw [if_neg hexh, if_neg hnone, if_neg hfail, State.takeByte_est, hw, hk,
      (getByte_byte_frame hg ha).1, he]
  · simp [hp]
  · simp [hp, hs, kindCode]

theorem execEnFetch_host : t.host = s.host := by
  rcases execEnFetch_next he hx with ⟨-, -, rfl⟩ | ⟨u, b, hg, -, rfl⟩ | ⟨-, -, rfl⟩ |
    ⟨_, -, -, rfl⟩
  · rfl
  · obtain ⟨-, -, -, -, -, -, -, -, -, hhost, -⟩ := getByte_frame hg
    exact hhost
  · rfl
  · rfl

end

/-! ### The step -/

theorem undisturbed_eq_false_of_rst {s : State} (hh : s.host.head? = some .rst) :
    s.undisturbed = false := by
  simp [State.undisturbed, hh]

/-- Settles O40: outside EN.FETCH and RESET a step leaves the phase. -/
theorem phaseTransitions : Obligations.PhaseTransitions := by
  intro s t h
  show t.phase = if s.host.head? = some .rst then .streaming
    else if s.undisturbed = false ∨ s.est ≠ .fetch then s.phase else s.nextPhase
  rcases step_cases h with ⟨hh, rfl⟩ | ⟨hu, hh, rfl | rfl⟩ | ⟨hu, hh, v, rfl, hv⟩
  · rw [if_pos hh]; rfl
  · rw [if_neg hh, if_pos (.inl hu)]
  · rw [if_neg hh, if_pos (.inl hu)]
  · rw [if_neg hh]
    rcases hv with ⟨he, hx⟩ | ⟨he, rfl⟩ | ⟨he, rfl⟩ | ⟨he, rfl⟩ | ⟨he, rfl⟩
    · rw [if_neg (by simp [hu, he])]
      exact (State.advanceHost_phase v).trans (execEnFetch_phase he hx)
    · simp [he]
    · simp [he]
    · simp [he]
    · rw [if_pos (.inr (by rcases he with he | he <;> simp [he]))]; rfl

/-- Settles O41: the row of FETCH is `execEnFetch_est`, the others are read off the operation. -/
theorem sequencerTransitions : Obligations.SequencerTransitions := by
  intro s t h
  rcases step_cases h with ⟨hh, rfl⟩ | ⟨hu, hh, rfl | rfl⟩ | ⟨hu, hh, v, rfl, hv⟩
  · rw [if_pos hh]; rfl
  · rw [if_neg hh, if_pos hu]
  · rw [if_neg hh, if_pos hu]
  · rw [if_neg hh, if_neg (by simp [hu])]
    rcases hv with ⟨he, hx⟩ | ⟨he, rfl⟩ | ⟨he, rfl⟩ | ⟨he, rfl⟩ | ⟨he | he, rfl⟩
    · simp only [he]
      exact (State.advanceHost_est v).trans (execEnFetch_est he hx)
    · simp [he]
    · simp [he]
    · simp [he]
    · simp [he]
    · simp [he]

/-- R63, R66: where SRC is not pulled it is untouched. -/
theorem step_src {s t : State} (h : step s = .next t) : t.src =
    if s.est = .fetch ∧ s.phase = .streaming ∧ s.undisturbed = true then s.src.rest else s.src := by
  rcases step_cases h with ⟨hh, rfl⟩ | ⟨hu, -, rfl | rfl⟩ | ⟨hu, -, v, rfl, hv⟩
  · simp [undisturbed_eq_false_of_rst hh]
  · simp [hu]
  · simp [hu]
  · rcases hv with ⟨he, hx⟩ | ⟨he, rfl⟩ | ⟨he, rfl⟩ | ⟨he, rfl⟩ | ⟨he | he, rfl⟩
    · simpa [he, hu, State.srcAfterFetch] using execEnFetch_src he hx
    · simp [he]
    · simp [he]
    · simp [he]
    · simp [he]
    · simp [he]

/-- Settles O42: a source that gives no answer is the same after a pull. -/
theorem pullsOnlyWhileStreaming : Obligations.PullsOnlyWhileStreaming := by
  intro s t h
  refine ⟨step_src h, fun hs => ?_⟩
  rw [step_src h, Source.head?_eq_none.mp hs, Source.rest_silent, ite_self]

/-- Every step takes one action of HOST (log entry 4). -/
theorem step_host {s t : State} (h : step s = .next t) : t.host = s.host.tail := by
  rcases step_cases h with ⟨-, rfl⟩ | ⟨-, -, rfl | rfl⟩ | ⟨-, -, v, rfl, hv⟩
  · rfl
  · rfl
  · rfl
  · rcases hv with ⟨he, hx⟩ | ⟨-, rfl⟩ | ⟨-, rfl⟩ | ⟨-, rfl⟩ | ⟨-, rfl⟩
    · rw [State.advanceHost_host, execEnFetch_host he hx]
    all_goals rfl

end Sys2Proof.Machine
end

section
/-! PROOFS. Block assembly from SRC byte by byte (R147): the block buffer after any number of bytes of a
block is `packWord` of the bytes so far, since the first byte of a word replaces it. -/

namespace Sys2Proof.Machine

/-! ### `packWord`, one byte more -/

theorem getD_concat (p : List Byte) (b : Byte) (n : Nat) :
    (p ++ [b]).getD n 0 = p.getD n 0 ||| (if n = p.length then b else 0) := by
  rcases Nat.lt_trichotomy n p.length with h | h | h
  · simp [List.getElem?_append_left h, Nat.ne_of_lt h]
  · simp [h]
  · have hb : (p ++ [b])[n]? = none :=
      List.getElem?_eq_none (by rw [List.length_append, List.length_singleton]; omega)
    simp [hb, Nat.ne_of_gt h, Nat.le_of_lt h]

theorem intoLane_or (b c : Byte) (k : Nat) :
    intoLane (b ||| c) k = intoLane b k ||| intoLane c k := by
  simp [intoLane, BitVec.setWidth_or, BitVec.shiftLeft_or_distrib]

@[simp] theorem intoLane_zero (k : Nat) : intoLane 0#8 k = 0#32 := by simp [intoLane]

/-- R149: the byte after `p` goes into its lane of its word. -/
theorem packWord_concat_same (p : List Byte) (b : Byte) : packWord (p ++ [b]) (p.length / 4) =
    packWord p (p.length / 4) ||| intoLane b (p.length % 4) := by
  have hk : p.length % 4 = 0 ∨ p.length % 4 = 1 ∨ p.length % 4 = 2 ∨ p.length % 4 = 3 := by omega
  have hlen : p.length = 4 * (p.length / 4) + p.length % 4 := by omega
  simp only [packWord, getD_concat, intoLane_or]
  generalize p.length / 4 = j at *
  rcases hk with hk | hk | hk | hk
  all_goals
    rw [hk] at hlen ⊢
    simp [hlen]

/-- The other words of the block do not see it. -/
theorem packWord_concat_other (p : List Byte) (b : Byte) {j : Nat} (h : j ≠ p.length / 4) :
    packWord (p ++ [b]) j = packWord p j := by
  have hne : ∀ k < 4, 4 * j + k ≠ p.length := by omega
  have h0 : 4 * j ≠ p.length := hne 0 (by omega)
  simp only [packWord, getD_concat]
  simp [h0, hne]

theorem packWord_of_length_le {p : List Byte} {j : Nat} (h : p.length ≤ 4 * j) :
    packWord p j = 0 := by
  have hnone : ∀ k, p[4 * j + k]? = none := fun k => List.getElem?_eq_none (by omega)
  have h0 : p[4 * j]? = none := hnone 0
  simp [packWord, h0, hnone]

/-! ### The state after some bytes of a block -/

/-- A state in which the next byte request in `Streaming` begins a block, HOST being gone. -/
structure State.AtBlockStart (s : State) : Prop where
  est : s.est = .fetch
  phase : s.phase = .streaming
  wordpos : s.wordpos = 0
  bytepos : s.bytepos = 0
  host : s.host = []
  answer : s.answer = none

/-- The block start `s` further on by the bytes `p` of the block, `r` being the source then. -/
def State.filled (s : State) (p : List Byte) (r : Source) : State :=
  { s with
    M := Vector.ofFn fun j => if 4 * j.val < p.length then packWord p j.val else s.M[j]
    wordpos := BitVec.ofNat 4 (p.length / 4)
    bytepos := BitVec.ofNat 2 p.length
    est := if p.length = 64 then .save else .fetch
    src := r
    bitcnt := s.bitcnt + BitVec.ofNat 64 (8 * p.length) }

/-- R24: the position after `n` bytes of a block moves to that after `n + 1`, and `n = 63` is the last
byte of the last word. -/
theorem position_succ : ∀ n < 64,
    (if BitVec.ofNat 2 n = 3 then BitVec.ofNat 4 (n / 4) + 1 else BitVec.ofNat 4 (n / 4)) =
      BitVec.ofNat 4 ((n + 1) / 4) ∧
    BitVec.ofNat 2 n + 1 = BitVec.ofNat 2 (n + 1) ∧
    (BitVec.ofNat 4 (n / 4) = 15 ∧ BitVec.ofNat 2 n = 3 ↔ n + 1 = 64) := by decide

theorem M_eq_of_readBlk {s t : State} (h : ∀ j, s.readBlk j = t.readBlk j) : s.M = t.M := by
  ext1 j hj
  have hword := h (BitVec.ofNat 4 j)
  simpa [State.readBlk, Nat.mod_eq_of_lt hj] using hword

theorem readBlk_filled (s : State) (p : List Byte) (r : Source) (j : BitVec 4) :
    (s.filled p r).readBlk j =
      if 4 * j.toNat < p.length then packWord p j.toNat else s.readBlk j := by
  simp [State.readBlk, State.filled]

/-- R141 to R144: the word under assembly gets the byte after `p`, the other words stay. -/
theorem readBlk_filled_concat (s : State) {p : List Byte} (b : Byte) (r r' : Source)
    (hp : p.length < 64) (j : BitVec 4) :
    ((s.filled p r).takeByte b).readBlk j = (s.filled (p ++ [b]) r').readBlk j := by
  have hw : (s.filled p r).wordpos.toNat = p.length / 4 :=
    Nat.mod_eq_of_lt (show p.length / 4 < 2 ^ 4 by omega)
  have hk : (s.filled p r).bytepos.toNat = p.length % 4 := rfl
  rw [readBlk_filled, List.length_append, List.length_singleton]
  by_cases hj : j = (s.filled p r).wordpos
  · subst hj
    have hin : 4 * (p.length / 4) < p.length + 1 := by omega
    rw [readBlk_takeByte_same, readBlk_filled, hw, hk, packWord_concat_same, if_pos hin]
    by_cases h0 : p.length % 4 = 0
    · have hk0 : (s.filled p r).bytepos = 0 := BitVec.eq_of_toNat_eq (hk.trans h0)
      rw [if_pos hk0, packWord_of_length_le (by omega)]
    · have hk0 : (s.filled p r).bytepos ≠ 0 := fun h => h0 (by rw [← hk, h]; rfl)
      rw [if_neg hk0, if_pos (by omega)]
  · have hne : j.toNat ≠ p.length / 4 := fun h => hj (BitVec.eq_of_toNat_eq (h.trans hw.symm))
    have hlt : 4 * j.toNat < p.length + 1 ↔ 4 * j.toNat < p.length := by omega
    rw [readBlk_takeByte_other _ _ hj, readBlk_filled, packWord_concat_other p b hne]
    simp only [hlt]

/-- R120, R141 to R144: counting and taking one byte more. -/
theorem filled_concat {s : State} (ha : s.answer = none) {p : List Byte} (b : Byte) (r : Source)
    (hp : p.length < 64) :
    (s.filled p r).popSrc.countByte.takeByte b = s.filled (p ++ [b]) r.rest := by
  obtain ⟨hw, hk, hlast⟩ := position_succ p.length hp
  have hlen : (p ++ [b]).length = p.length + 1 := List.length_append
  rw [← hlen] at hw hk hlast
  have hest : (if BitVec.ofNat 4 (p.length / 4) = 15 ∧ BitVec.ofNat 2 p.length = 3 then Est.save
      else if p.length = 64 then .save else .fetch) =
      if (p ++ [b]).length = 64 then .save else .fetch := by
    simp only [hlast, if_neg (Nat.ne_of_lt hp)]
  have hM : ((s.filled p r).takeByte b).M = (s.filled (p ++ [b]) r.rest).M :=
    M_eq_of_readBlk (readBlk_filled_concat s b r _ hp)
  have hcnt : s.bitcnt + BitVec.ofNat 64 (8 * p.length) + 8 =
      s.bitcnt + BitVec.ofNat 64 (8 * (p ++ [b]).length) := by
    rw [BitVec.add_assoc, ofNat_eight_mul_succ_length]
  calc (s.filled p r).popSrc.countByte.takeByte b
      = { s.filled (p ++ [b]) r.rest with
          M := ((s.filled p r).takeByte b).M
          wordpos := if BitVec.ofNat 2 p.length = 3 then BitVec.ofNat 4 (p.length / 4) + 1
            else BitVec.ofNat 4 (p.length / 4)
          bytepos := BitVec.ofNat 2 p.length + 1
          est := if BitVec.ofNat 4 (p.length / 4) = 15 ∧ BitVec.ofNat 2 p.length = 3 then .save
            else if p.length = 64 then .save else .fetch
          bitcnt := s.bitcnt + BitVec.ofNat 64 (8 * p.length) + 8
          answer := none } := rfl
    _ = s.filled (p ++ [b]) r.rest := by
      rw [hM, hw, hk, hest, hcnt, ← ha]
      rfl

theorem filled_nil {s : State} (h : s.AtBlockStart) : s.filled [] s.src = s := by
  have hM : (s.filled [] s.src).M = s.M := M_eq_of_readBlk fun j => by simp [readBlk_filled]
  calc s.filled [] s.src
      = { s with
          M := s.M, wordpos := s.wordpos, bytepos := s.bytepos, est := s.est
          bitcnt := s.bitcnt } := by
        unfold State.filled
        congr 1
        · exact BitVec.add_zero s.bitcnt
        · exact h.wordpos.symm
        · exact h.bytepos.symm
        · exact h.est.symm
    _ = s := rfl

/-- Two runs one after the other. -/
theorem run_trans {a b k : Nat} {s t : State} {o : Out} (hk : k = a + b)
    (h : core.run a s = .next t) (h' : core.run b t = o) : core.run k s = o := by
  rw [hk, run_add core a b s t h]
  exact h'

/-- With HOST gone a step in FETCH is EN.FETCH alone. -/
theorem step_execEnFetch_host_nil {s t : State} (hh : s.host = []) (he : s.est = .fetch)
    (hx : execEnFetch s = .next t) : step s = .next t := by
  refine step_of_exec_host_nil ((execEnFetch_host he hx).trans hh) ?_
  rw [exec_current_of_fetch (undisturbed_of_host_nil hh) he, hx]

/-- R147: the bytes of a block one by one. -/
theorem run_filled {s : State} (h : s.AtBlockStart) {p : List Byte} {r : Source}
    (hp : p.length ≤ 64) (hsrc : s.src.gives (p.map .byte) r) :
    core.run p.length s = .next (s.filled p r) := by
  induction p using List.reverseRecOn generalizing r with
  | nil => rw [← hsrc, filled_nil h]; rfl
  | append_singleton p b ih =>
    rw [List.length_append, List.length_singleton] at hp ⊢
    rw [List.map_append, Source.gives_append] at hsrc
    obtain ⟨q, hq, hb, rfl⟩ := hsrc
    have he : (s.filled p q).est = .fetch := if_neg (by omega)
    have hstep : step (s.filled p q) = .next (s.filled (p ++ [b]) q.rest) := by
      rw [← filled_concat h.answer b q (by omega)]
      exact step_execEnFetch_host_nil h.host he (execEnFetch_of_byte he h.phase hb)
    exact run_trans rfl (ih (by omega) hq) (run_succ core hstep)

@[simp] theorem filled_regs (s : State) (p : List Byte) (r : Source) :
    (s.filled p r).regs = s.regs := rfl

theorem filled_M_block (s : State) {p : List Byte} (r : Source) (hp : p.length = 64) :
    (s.filled p r).M = packBlock p := by
  ext1 j hj
  have hin : 4 * j < 64 := by omega
  simp [State.filled, packBlock, hp, hin]

/-- R147 case 1: after the 64th byte the buffer is the block and the position is back at 0. -/
theorem filled_block {s : State} (h : s.AtBlockStart) {p : List Byte} (r : Source)
    (hp : p.length = 64) : s.filled p r = { s with
      M := packBlock p, est := .save, src := r, bitcnt := s.bitcnt + 512 } := by
  have hw : BitVec.ofNat 4 (p.length / 4) = s.wordpos := by rw [hp, h.wordpos]; rfl
  have hk : BitVec.ofNat 2 p.length = s.bytepos := by rw [hp, h.bytepos]; rfl
  have hcnt : BitVec.ofNat 64 (8 * p.length) = 512 := by rw [hp]; rfl
  calc s.filled p r
      = { s with
          M := (s.filled p r).M
          wordpos := BitVec.ofNat 4 (p.length / 4)
          bytepos := BitVec.ofNat 2 p.length
          est := if p.length = 64 then .save else .fetch
          src := r
          bitcnt := s.bitcnt + BitVec.ofNat 64 (8 * p.length) } := rfl
    _ = _ := by rw [filled_M_block s r hp, hw, hk, if_pos hp, hcnt]

/-- Settles O57: a whole block, byte by byte. -/
theorem sixtyFourBytesMakeABlock : Obligations.SixtyFourBytesMakeABlock := by
  intro bytes rest s hlen he hp hpos hh ha hsrc
  obtain ⟨hw, hk⟩ := (pos_eq_append_iff (w := 0) (k := 0)).mp hpos
  have h : s.AtBlockStart := ⟨he, hp, hw, hk, hh, ha⟩
  rw [← filled_block h rest hlen, ← hlen]
  exact run_filled h (Nat.le_of_eq hlen) hsrc

end Sys2Proof.Machine
end

section
/-! PROOFS. Runs without a digest (R200): a source that fails and a source that never ends. -/

namespace Sys2Proof.Machine

/-! ### A source that fails -/

/-- R201, stated of functions: with the arguments applied the kernel would evaluate `compress`. -/
theorem foldBlocks_succ (n : Nat) : foldBlocks (n + 1) = fun p r =>
    foldBlocks n (p.drop 64) (compress (packBlock (p.take 64)) r) := rfl

/-- R111, R202: a block from SRC is read and compressed in 130 steps. -/
theorem run_block {s : State} (h : s.AtBlockStart) {p : List Byte} {r : Source}
    (hp : p.length = 64) (hsrc : s.src.gives (p.map .byte) r) :
    ∃ t : State, core.run 130 s = .next t ∧ t.AtBlockStart ∧ t.src = r ∧
      t.bitcnt = s.bitcnt + 512 ∧ t.regs = compress (packBlock p) s.regs := by
  have hfill := run_filled h (Nat.le_of_eq hp) hsrc
  rw [hp] at hfill
  obtain ⟨t, hrun, hregs, -, ht⟩ := compressFoldsOneBlock (s.filled p r) (if_pos hp) h.host
  rw [filled_M_block s r hp, filled_regs] at hregs
  rw [filled_block h r hp] at ht
  refine ⟨t, run_trans (by norm_num) hfill hrun, ?_, ?_, ?_, hregs⟩
  · rw [ht]
    exact ⟨rfl, h.phase, h.wordpos, h.bytepos, h.host, h.answer⟩
  · rw [ht]
  · rw [ht]

/-- R201: whole blocks from SRC, folded through COMPRESS; the bytes after them are still to come. -/
theorem run_blocks (n : Nat) {s : State} (h : s.AtBlockStart) {p : List Byte}
    {tail : List SrcAnswer} {r : Source} (hp : 64 * n ≤ p.length)
    (hsrc : s.src.gives (p.map .byte ++ tail) r) :
    ∃ t : State, core.run (130 * n) s = .next t ∧ t.AtBlockStart ∧
      t.src.gives ((p.drop (64 * n)).map .byte ++ tail) r ∧
      t.bitcnt = s.bitcnt + BitVec.ofNat 64 (512 * n) ∧ t.regs = foldBlocks n p s.regs := by
  induction n generalizing s p with
  | zero => exact ⟨s, rfl, h, hsrc, (BitVec.add_zero _).symm, rfl⟩
  | succ n ih =>
    have hsplit : p.map SrcAnswer.byte ++ tail =
        (p.take 64).map .byte ++ ((p.drop 64).map .byte ++ tail) := by
      rw [← List.append_assoc, ← List.map_append, List.take_append_drop]
    rw [hsplit, Source.gives_append] at hsrc
    obtain ⟨q, hq, hrest⟩ := hsrc
    obtain ⟨u, hrun, hu, rfl, hcnt, hregs⟩ := run_block h (List.length_take_of_le (by omega)) hq
    obtain ⟨t, hrun', ht, hsrc', hcnt', hregs'⟩ := ih hu (by rw [List.length_drop]; omega) hrest
    refine ⟨t, ?_, ht, ?_, ?_, ?_⟩
    · exact run_trans (by omega) hrun hrun'
    · rwa [List.drop_drop, show 64 + 64 * n = 64 * (n + 1) by omega] at hsrc'
    · rw [hcnt', hcnt, BitVec.add_assoc, show 512 * (n + 1) = 512 + 512 * n by omega,
        BitVec.ofNat_add]
      rfl
    · rw [hregs', hregs, foldBlocks_succ]

/-- R146, R214: a block that SRC breaks off with a failure. -/
theorem run_broken_block {s : State} (h : s.AtBlockStart) {p : List Byte} {e : SrcErr} {r : Source}
    (hp : p.length < 64) (hsrc : s.src.gives (p.map .byte ++ [.fail e]) r) :
    core.run (p.length + 1) s =
      .next ((s.filled p r).raiseSourceReadError e).clearAnswer := by
  obtain ⟨q, hq, he, rfl⟩ := Source.gives_append.mp hsrc
  have hest : (s.filled p q).est = .fetch := if_neg (Nat.ne_of_lt hp)
  exact run_trans rfl (run_filled h (Nat.le_of_lt hp) hq)
    (run_succ core (step_execEnFetch_host_nil h.host hest (execEnFetch_of_fail hest h.phase he)))

theorem atBlockStart_reset (source : Source) : (State.reset.connect source).AtBlockStart :=
  ⟨rfl, rfl, rfl, rfl, rfl, rfl⟩

/-! ### A source that never ends -/

/-- What every step keeps, it keeps for ever, if it lets every step be taken. -/
theorem exists_run_of_step {P : State → Prop} (hstep : ∀ s, P s → ∃ t, step s = .next t ∧ P t)
    {s : State} (h : P s) (j : Nat) : ∃ t : State, core.run j s = .next t ∧ P t := by
  induction j generalizing s with
  | zero => exact ⟨s, rfl, h⟩
  | succ j ih =>
    obtain ⟨u, hu, hPu⟩ := hstep s h
    rw [run_succ core hu]
    exact ih hPu

/-- R62 (c): the source answers every pull with a byte. -/
def Source.NeverEnds (r : Source) : Prop :=
  ∃ (bytes : List Byte) (k n : Nat), r.gives (bytes.map .byte) (.endless k n)

theorem Source.NeverEnds.head {r : Source} (h : r.NeverEnds) : ∃ b, r.head? = some (.byte b) := by
  obtain ⟨bytes, k, n, hgives⟩ := h
  cases bytes with
  | nil => exact ⟨_, by rw [show r = .endless k n from hgives]; rfl⟩
  | cons b bytes => exact ⟨b, hgives.1⟩

theorem Source.NeverEnds.rest {r : Source} (h : r.NeverEnds) : r.rest.NeverEnds := by
  obtain ⟨bytes, k, n, hgives⟩ := h
  cases bytes with
  | nil => exact ⟨[], k, n + 1, by rw [show r = .endless k n from hgives]; rfl⟩
  | cons b bytes => exact ⟨bytes, k, n, hgives.2⟩

/-- R228: a run on a source that never ends, HOST being gone. -/
structure State.EndlessRun (s : State) : Prop where
  phase : s.phase = .streaming
  busy : s.busy = true
  src : s.src.NeverEnds
  host : s.host = []

theorem busy_iff {s : State} : s.busy = true ↔ s.est ≠ .done ∧ s.est ≠ .fault := by
  cases he : s.est <;> simp [State.busy, he]

/-- R133: a Reader that is given bytes streams on. -/
theorem State.EndlessRun.phase_step {s t : State} (h : s.EndlessRun) (hstep : step s = .next t) :
    t.phase = .streaming := by
  obtain ⟨b, hb⟩ := h.src.head
  have hphase := phaseTransitions s t hstep
  simpa [h.host, h.phase, hb] using hphase

/-- R199, R200: with a byte to come, no row of the sequencer's table leads to DONE or FAULT. -/
theorem State.EndlessRun.busy_step {s t : State} (h : s.EndlessRun) (hstep : step s = .next t) :
    t.busy = true := by
  obtain ⟨b, hb⟩ := h.src.head
  obtain ⟨hdone, hfault⟩ := busy_iff.mp h.busy
  have hnorst : s.host.head? ≠ some .rst := by simp [h.host]
  have hest := sequencerTransitions s t hstep
  rw [if_neg hnorst, if_neg (by simp [undisturbed_of_host_nil h.host])] at hest
  rw [busy_iff, hest]
  cases he : s.est with
  | fetch =>
    simp only [h.phase, hb, Option.map_some, kindCode]
    by_cases hlast : s.wordpos = 15#4 ∧ s.bytepos = 3#2 <;> simp [hlast]
  | round => by_cases hlast : s.i = 63#6 <;> simp [hlast]
  | save => simp
  | chain => simp
  | done => exact absurd he hdone
  | fault => exact absurd he hfault

/-- R228: an endless run goes on. -/
theorem State.EndlessRun.step {s : State} (h : s.EndlessRun) :
    ∃ t, step s = .next t ∧ t.EndlessRun := by
  obtain ⟨b, hb⟩ := h.src.head
  obtain ⟨v, hv⟩ := exec_current_completes (s := s)
    fun he => ⟨_, execEnFetch_of_byte he h.phase hb⟩
  have hstep := step_of_exec hv
  refine ⟨_, hstep, h.phase_step hstep, h.busy_step hstep, ?_, ?_⟩
  · rw [step_src hstep]
    split
    · exact h.src.rest
    · exact h.src
  · rw [step_host hstep, h.host]
    rfl

theorem State.EndlessRun.stepEnabled {s : State} (h : s.EndlessRun) : s.stepEnabled = true := by
  obtain ⟨b, hb⟩ := h.src.head
  simp [State.stepEnabled, State.waiting, h.busy, hb]

/-- Settles O60: the whole blocks before the failure and the block it breaks off; and the invariant
of an endless run. -/
theorem failingSourceFaultsEndlessNeverEnds : Obligations.FailingSourceFaultsEndlessNeverEnds := by
  refine ⟨fun bytes e source rest hsrc => ?_, fun bytes source k n j hsrc => ?_⟩
  · obtain ⟨s, hrun, hs, hgives, hcnt, hregs⟩ := run_blocks (bytes.length / 64)
      (atBlockStart_reset source) (by omega) hsrc
    have hlen : (bytes.drop (64 * (bytes.length / 64))).length = bytes.length % 64 := by
      rw [List.length_drop]; omega
    have hbroken := run_broken_block hs (by omega) hgives
    refine ⟨_, run_trans (by omega) hrun hbroken, rfl, rfl, rfl, rfl, rfl, ?_, hregs⟩
    calc s.bitcnt + BitVec.ofNat 64 (8 * (bytes.drop (64 * (bytes.length / 64))).length)
        = BitVec.ofNat 64 (512 * (bytes.length / 64) + 8 * (bytes.length % 64)) := by
          rw [hcnt, hlen, BitVec.ofNat_add]
          exact congrArg (· + _) (BitVec.zero_add _)
      _ = BitVec.ofNat 64 (8 * bytes.length) := by congr 1; omega
  · have hstart : (State.reset.connect source).EndlessRun := ⟨rfl, rfl, ⟨bytes, k, n, hsrc⟩, rfl⟩
    obtain ⟨t, hrun, ht⟩ := exists_run_of_step (fun _ h => h.step) hstart j
    obtain ⟨hdone, hfault⟩ := busy_iff.mp ht.busy
    exact ⟨t, hrun, ht.phase, ht.stepEnabled, by simp [State.final, hdone],
      by simp [State.failed, hfault]⟩

end Sys2Proof.Machine
end

section
/-! PROOFS. Decoding and encoding (R90 to R101, R107). -/

namespace Sys2Proof.Machine

/-! ### The decoder, format by format -/

/-- What a selector names is what it decodes to. -/
theorem mem_selected_iff {f : Format} {b : BitVec 6} {i : Instr} :
    i ∈ selected f b ↔ decodeSelector ⟨f, b⟩ = .ok i := by
  unfold selected
  cases decodeSelector ⟨f, b⟩ <;> simp [eq_comm]

/-- R94: BA decodes to the operation of the position. -/
theorem decodeSelector_ba (w : BitVec 4) (k : BitVec 2) :
    decodeSelector ⟨.ba, w ++ k⟩ = .ok (baAt w k) :=
  mem_selected_iff.mp (by simp [selected_ba])

/-- The RND operation of a round index (R93, R100). -/
def rndAt (i : BitVec 6) : Instr :=
  if quarterOf i = 0 then .rndF i
  else if quarterOf i = 1 then .rndG i
  else if quarterOf i = 2 then .rndH i
  else .rndI i

/-- R93: RND decodes to the operation of the round index, every index to one. -/
theorem decodeSelector_rnd (i : BitVec 6) : decodeSelector ⟨.rnd, i⟩ = .ok (rndAt i) := by
  simp only [decodeSelector, decodeRnd, rndAt, apply_ite Except.ok]

section
variable {i : BitVec 6}

theorem rndAt_of_quarter_zero (h : quarterOf i = 0) : rndAt i = .rndF i := by simp [rndAt, h]
theorem rndAt_of_quarter_one (h : quarterOf i = 1) : rndAt i = .rndG i := by simp [rndAt, h]
theorem rndAt_of_quarter_two (h : quarterOf i = 2) : rndAt i = .rndH i := by simp [rndAt, h]
theorem rndAt_of_quarter_three (h : quarterOf i = 3) : rndAt i = .rndI i := by simp [rndAt, h]

end

/-- R93 to R95, R100: the decoder reads back the selector of every well-formed operation. -/
theorem decodeSelector_selectorOf {i : Instr} (h : i.wellFormed = true) :
    decodeSelector (selectorOf i) = .ok i := by
  cases i with
  | baB0 w => exact decodeSelector_ba w 0
  | baB1 w => exact decodeSelector_ba w 1
  | baB2 w => exact decodeSelector_ba w 2
  | baB3 w => exact decodeSelector_ba w 3
  | rndF n => exact (decodeSelector_rnd n).trans (congrArg _ (rndAt_of_quarter_zero (eq_of_beq h)))
  | rndG n => exact (decodeSelector_rnd n).trans (congrArg _ (rndAt_of_quarter_one (eq_of_beq h)))
  | rndH n => exact (decodeSelector_rnd n).trans (congrArg _ (rndAt_of_quarter_two (eq_of_beq h)))
  | rndI n => exact (decodeSelector_rnd n).trans (congrArg _ (rndAt_of_quarter_three (eq_of_beq h)))
  | _ => rfl

/-! ### The byte form -/

theorem formatByte_ne_zero (f : Format) : formatByte f ≠ 0 := by cases f <;> decide

theorem formatOfByte_formatByte (f : Format) : formatOfByte (formatByte f) = some f := by
  cases f <;> rfl

/-- The byte form of a selector decodes as the selector does, and leaves what follows it. -/
theorem decodeBytes_selector (s : Selector) (rest : List Byte) :
    decodeBytes (s.bits.setWidth 8 :: formatByte s.format :: rest) =
      (decodeSelector s).map (·, rest) := by
  have hlt : s.bits.setWidth 8 < 64 := by bv_omega
  have hbits : (s.bits.setWidth 8).setWidth 6 = s.bits := by simp
  simp only [decodeBytes, if_neg (formatByte_ne_zero _), formatOfByte_formatByte, if_pos hlt, hbits]

/-- Settles O3: the byte form carries the selector, and the decoder reads back the selector. -/
theorem decodeInvertsEncode : Obligations.DecodeInvertsEncode := by
  intro i h
  have hsel := decodeSelector_selectorOf h
  refine ⟨hsel, fun rest => (decodeBytes_selector (selectorOf i) rest).trans ?_⟩
  rw [hsel]
  rfl

/-! ### The operation map -/

theorem selectorOf_baAt (w : BitVec 4) (k : BitVec 2) : selectorOf (baAt w k) = ⟨.ba, w ++ k⟩ := by
  rcases bytepos_cases k with rfl | rfl | rfl | rfl <;> rfl

theorem wellFormed_baAt (w : BitVec 4) (k : BitVec 2) : (baAt w k).wellFormed = true := by
  rcases bytepos_cases k with rfl | rfl | rfl | rfl <;> rfl

theorem selectorOf_rndAt (i : BitVec 6) : selectorOf (rndAt i) = ⟨.rnd, i⟩ := by
  unfold rndAt
  split_ifs <;> rfl

theorem wellFormed_rndAt (i : BitVec 6) : (rndAt i).wellFormed = true := by
  rcases quarter_cases i with ⟨h, -⟩ | ⟨h, -⟩ | ⟨h, -⟩ | ⟨h, -⟩ <;>
    simp [rndAt, h, Instr.wellFormed]

/-- A selector of six bits is a position (R94). -/
theorem exists_eq_append (b : BitVec 6) : ∃ (w : BitVec 4) (k : BitVec 2), b = w ++ k :=
  ⟨b.extractLsb' 2 4, b.extractLsb' 0 2, by revert b; decide⟩

/-- R91, R100: a selector of PB meets the row of the one the encoder writes, whatever the bits that
are not looked at. -/
theorem rowOf_of_mem_selected_pb : ∀ (b : BitVec 6), ∀ i ∈ selected .pb b, i.wellFormed = true ∧
    (selectorOf i).format = .pb ∧ rowOf ⟨.pb, b⟩ = rowOf (selectorOf i) := by
  decide

/-- R92, R95: EN, OUT and H accept only selectors that the encoder writes. -/
theorem selectorOf_of_mem_selected : ∀ f ∈ [Format.en, .out, .h], ∀ (b : BitVec 6),
    ∀ i ∈ selected f b, i.wellFormed = true ∧ selectorOf i = ⟨f, b⟩ := by
  decide

/-- Every format but PB looks at all its bits: what the decoder accepts there the encoder writes
back. -/
theorem selectorOf_of_decodeSelector {f : Format} {b : BitVec 6} {i : Instr} (hf : f ≠ .pb)
    (h : decodeSelector ⟨f, b⟩ = .ok i) : i.wellFormed = true ∧ selectorOf i = ⟨f, b⟩ := by
  cases f with
  | pb => exact absurd rfl hf
  | ba =>
    obtain ⟨w, k, rfl⟩ := exists_eq_append b
    rw [decodeSelector_ba] at h
    cases h
    exact ⟨wellFormed_baAt w k, selectorOf_baAt w k⟩
  | rnd =>
    rw [decodeSelector_rnd] at h
    cases h
    exact ⟨wellFormed_rndAt b, selectorOf_rndAt b⟩
  | en => exact selectorOf_of_mem_selected _ (by decide) b i (mem_selected_iff.mpr h)
  | out => exact selectorOf_of_mem_selected _ (by decide) b i (mem_selected_iff.mpr h)
  | h => exact selectorOf_of_mem_selected _ (by decide) b i (mem_selected_iff.mpr h)

/-- R100: what the decoder accepts is a well-formed operation of the format, in the same row. -/
theorem decodeSelector_ok {f : Format} {b : BitVec 6} {i : Instr}
    (h : decodeSelector ⟨f, b⟩ = .ok i) : i.wellFormed = true ∧ (selectorOf i).format = f ∧
      rowOf ⟨f, b⟩ = rowOf (selectorOf i) := by
  by_cases hf : f = .pb
  · subst hf
    exact rowOf_of_mem_selected_pb b i (mem_selected_iff.mpr h)
  · obtain ⟨hwf, hsel⟩ := selectorOf_of_decodeSelector hf h
    exact ⟨hwf, by rw [hsel], by rw [hsel]⟩

open Sys2Proof.Laws in
/-- R100: the row of each operation. -/
theorem rowMatch : ∀ i, RowMatch.Statement i
  | .pbStreamByte => RowMatch.pbStreamByte
  | .pbStreamEos => RowMatch.pbStreamEos
  | .pbStreamFail => RowMatch.pbStreamFail
  | .pbPadzZero => RowMatch.pbPadzZero
  | .pbPadzLen => RowMatch.pbPadzLen
  | .pbLenlo => RowMatch.pbLenlo
  | .pbLenhi => RowMatch.pbLenhi
  | .pbExh => RowMatch.pbExh
  | .baB0 w => RowMatch.baB0 w
  | .baB1 w => RowMatch.baB1 w
  | .baB2 w => RowMatch.baB2 w
  | .baB3 w => RowMatch.baB3 w
  | .enFetch => RowMatch.enFetch
  | .enSave => RowMatch.enSave
  | .enRound => RowMatch.enRound
  | .enChain => RowMatch.enChain
  | .enDone => RowMatch.enDone
  | .enFault => RowMatch.enFault
  | .rndF n => RowMatch.rndF n
  | .rndG n => RowMatch.rndG n
  | .rndH n => RowMatch.rndH n
  | .rndI n => RowMatch.rndI n
  | .outDigest => RowMatch.outDigest
  | .outHex => RowMatch.outHex
  | .reset => RowMatch.reset

/-- R107, R112: a refused code of PB, and of EN and H within their width, meets no row. -/
theorem rowOf_of_refused :
    (∀ b : BitVec 6, selected .pb b = [] → rowOf ⟨.pb, b⟩ = none) ∧
    (∀ b : BitVec 6, b < 8 → selected .en b = [] → rowOf ⟨.en, b⟩ = none) ∧
    (∀ b : BitVec 6, b < 2 → selected .h b = [] → rowOf ⟨.h, b⟩ = none) := by
  refine ⟨?_, ?_, ?_⟩ <;> decide

theorem rowOf_of_decodeSelector_error {f : Format} {b : BitVec 6} {e : DecodeReject}
    (hout : f ≠ .out) (hen : f = .en → b < 8) (hh : f = .h → b < 2)
    (hd : decodeSelector ⟨f, b⟩ = .error e) :
    rowOf ⟨f, b⟩ = none := by
  have hsel : selected f b = [] := by rw [selected, hd]
  obtain ⟨hpb, hen', hh'⟩ := rowOf_of_refused
  cases f with
  | pb => exact hpb b hsel
  | en => exact hen' b (hen rfl) hsel
  | h => exact hh' b (hh rfl) hsel
  | out => exact absurd rfl hout
  | ba =>
    obtain ⟨w, k, rfl⟩ := exists_eq_append b
    rw [decodeSelector_ba] at hd
    cases hd
  | rnd => rw [decodeSelector_rnd] at hd; cases hd

/-- Settles O4: an accepted selector has the row of the selector the encoder writes. -/
theorem decodeFollowsTheMap : Obligations.DecodeFollowsTheMap := by
  rintro f b hout hen hh -
  cases hd : decodeSelector ⟨f, b⟩ with
  | ok i =>
    obtain ⟨hwf, hformat, hrow⟩ := decodeSelector_ok hd
    refine ⟨fun j hj => ?_, ?_⟩
    · cases hj
      exact ⟨hwf, hformat⟩
    · rw [hrow, rowMatch i hwf, hformat, if_neg hout]
  | error e => exact ⟨nofun, by rw [rowOf_of_decodeSelector_error hout hen hh hd]; rfl⟩

/-- Settles O1, word by word. -/
theorem mapWordsDecode : Obligations.MapWordsDecode := by
  unfold Obligations.MapWordsDecode
  decide

/-! ### Reserved codes (R107) -/

theorem decodeSelector_reservedPhase : ∀ p x : BitVec 3, 5 ≤ p →
    decodeSelector ⟨.pb, p ++ x⟩ = .error .reservedPhase := by
  decide

theorem decodeSelector_reservedSrcKind : ∀ x : BitVec 1,
    decodeSelector ⟨.pb, 0#3 ++ 3#2 ++ x⟩ = .error .reservedSrcKind := by
  decide

theorem decodeSelector_reservedEst : ∀ e : BitVec 3, 6 ≤ e →
    decodeSelector ⟨.en, 0#3 ++ e⟩ = .error .reservedEst := by
  decide

theorem getByte_of_reserved {s : State} (hp : s.phase = .streaming)
    (hs : s.src.head? = some .reserved) : getByte s = .refused .reservedSrcKind := by
  simp [getByte, hp, hs]

/-- Settles O2. -/
theorem reservedCodesAreRefused : Obligations.ReservedCodesAreRefused :=
  ⟨decodeSelector_reservedPhase, decodeSelector_reservedSrcKind, decodeSelector_reservedEst,
    fun _ => getByte_of_reserved⟩

end Sys2Proof.Machine
end

section
/-! PROOFS. The step, EN.ROUND and the byte request perform the operation decoded from their
selector (R101). -/

namespace Sys2Proof.Machine

/-- R101: the operation of a step is well formed, and the step's selector is the one the encoder
writes for it. -/
theorem selector_eq_selectorOf_current (s : State) :
    s.selector = selectorOf s.current ∧ s.current.wellFormed = true := by
  unfold State.selector State.current
  cases s.host.head? with
  | none => cases s.est <;> exact ⟨rfl, rfl⟩
  | some a =>
    cases a with
    | idle => cases s.est <;> exact ⟨rfl, rfl⟩
    | _ => exact ⟨rfl, rfl⟩

theorem decodeSelector_selector (s : State) :
    decodeSelector s.selector = .ok s.current ∧ s.current.wellFormed = true := by
  obtain ⟨hsel, hwf⟩ := selector_eq_selectorOf_current s
  exact ⟨hsel ▸ decodeSelector_selectorOf hwf, hwf⟩

/-- Settles O5: the decoded operation is the one the step performs. -/
theorem stepRunsDecodedOperation : Obligations.StepRunsDecodedOperation := by
  refine ⟨fun s => ⟨s.current, decodeSelector_selector s⟩, fun s i hd => ?_⟩
  obtain ⟨hcurrent, -⟩ := decodeSelector_selector s
  rw [hcurrent] at hd
  cases hd
  rfl

/-- R193: EN.ROUND is the RND operation of its round index. -/
theorem execEnRound_eq_exec_rndAt {s : State} (he : s.est = .round) :
    execEnRound s = exec (rndAt s.i) s := by
  rcases quarter_cases s.i with ⟨h, -⟩ | ⟨h, -⟩ | ⟨h, -⟩ | ⟨h, -⟩ <;>
    simp [execEnRound, rndAt, exec, he, h]

/-- Settles O7: `i` decodes to the operation of its quarter. -/
theorem roundRunsDecodedRound : Obligations.RoundRunsDecodedRound := by
  refine ⟨rfl, fun s i he hd => ?_⟩
  rw [decodeSelector_rnd] at hd
  cases hd
  exact execEnRound_eq_exec_rndAt he

/-! ### The byte request -/

/-- R91, R123: `psel` is missing only for the answer of SRC. -/
theorem psel_eq_none_iff {s : State} :
    s.psel = none ↔ s.phase = .streaming ∧ s.src.head? = none := by
  cases hp : s.phase <;> simp [State.psel, hp]

/-- R118: only an unanswered pull leaves the wire empty. -/
theorem silent_of_getByte_unanswered {s u : State} (hg : getByte s = .next u)
    (ha : u.answer = none) : s.phase = .streaming ∧ s.src.head? = none := by
  rcases getByte_next hg with ⟨hp, hs, -⟩ | ⟨_, -, -, rfl⟩ | ⟨-, -, rfl⟩ | ⟨_, -, -, rfl⟩ |
    ⟨-, -, rfl⟩ | ⟨-, -, rfl⟩ | ⟨-, rfl⟩ | ⟨-, rfl⟩ | ⟨-, rfl⟩
  case inl => exact ⟨hp, hs⟩
  all_goals simp at ha

/-- R107: a byte request whose selector decodes has a meaning. -/
theorem getByte_of_byteRequest {s : State} {i : Instr} (h : s.byteRequest = [i]) :
    ∃ u, getByte s = .next u := by
  by_contra hno
  obtain ⟨hp, hs, -⟩ := getByte_not_next fun u hu => hno ⟨u, hu⟩
  rw [byteRequest_of_streaming hp hs, selected, show kindCode .reserved = 3#2 from rfl,
    decodeSelector_reservedSrcKind] at h
  cases h

/-- R101 rule 4: a byte request is its one PB operation. -/
theorem getByte_eq_exec {s : State} {i : Instr} (h : s.byteRequest = [i]) :
    getByte s = exec i s.clearAnswer := by
  obtain ⟨u, hg⟩ := getByte_of_byteRequest h
  rcases getByte_runs_byteRequest hg with rfl | ⟨j, -, hj, hx⟩
  · have hnone := psel_eq_none_iff.mpr (silent_of_getByte_unanswered hg rfl)
    simp [State.byteRequest, hnone] at h
  · rw [h] at hj
    cases hj
    rw [hg, hx]

/-- Settles O8: a decoded `psel` is the request's one operation. -/
theorem byteRequestRunsDecodedOperation : Obligations.ByteRequestRunsDecodedOperation := by
  refine ⟨fun s p i hp hd => getByte_eq_exec ?_, fun s => ⟨psel_eq_none_iff, fun hnone => ?_⟩⟩
  · simp [State.byteRequest, hp, selected, hd]
  · obtain ⟨hp, hs⟩ := psel_eq_none_iff.mp hnone
    exact getByte_of_silent hp hs

end Sys2Proof.Machine
end

section
/-! PROOFS. The positions at which each byte production can be met (R102). -/

namespace Sys2Proof.Machine

/-- Settles O52, phase by phase from the invariant of the Reader. -/
theorem reachableAssemblyPairs : Obligations.ReachableAssemblyPairs := by
  rintro s ⟨-, -, -, hreader, -, -⟩ -
  refine ⟨fun hp => ?_, fun hp h448 => ?_, fun hp => ?_, fun hp => ?_⟩
  · obtain ⟨-, -, hpos⟩ := (readerInv_iff_of_exhausted hp).mp hreader
    exact hpos
  · obtain ⟨-, hpos⟩ := (readerInv_iff_of_paddingZeroes hp).mp hreader
    exact hpos.trans (extractLsb'_three_six_of_at448 h448)
  · obtain ⟨-, hsub, hw, hk⟩ := (readerInv_iff_of_lengthLow hp).mp hreader
    exact ⟨hw, hk ▸ hsub⟩
  · obtain ⟨-, hw, -⟩ := (readerInv_iff_of_lengthHigh hp).mp hreader
    exact hw

end Sys2Proof.Machine
end

section
/-! PROOFS. The hexadecimal form of the digest (R98, R198). -/

namespace Sys2Proof.Machine

/-- R98: the digits are the ASCII codes from 0x30 and from 0x61 on. -/
theorem hexdigit_eq_ofNat : ∀ v : BitVec 4, hexdigit v =
    if v ≤ 9 then Char.ofNat (0x30 + v.toNat) else Char.ofNat (0x61 + (v.toNat - 10)) := by
  decide

/-- R198: two characters for each byte. -/
theorem length_flatMap_byteDigits (l : List Byte) :
    (l.flatMap byteDigits).length = 2 * l.length := by
  induction l with
  | nil => rfl
  | cons b l ih => simp [ih, byteDigits]; omega

/-- R198: byte `k` has the characters `2k` and `2k + 1`, its high nibble first. -/
theorem getElem?_flatMap_byteDigits {l : List Byte} {k : Nat} {b : Byte} (h : l[k]? = some b) :
    (l.flatMap byteDigits)[2 * k]? = some (hexdigit (b.extractLsb' 4 4)) ∧
    (l.flatMap byteDigits)[2 * k + 1]? = some (hexdigit (b.extractLsb' 0 4)) := by
  induction l generalizing k with
  | nil => simp at h
  | cons c l ih =>
    cases k with
    | zero =>
      cases h
      exact ⟨rfl, rfl⟩
    | succ k => exact ih h

/-- Settles O45: the 16 digest bytes, digit by digit. -/
theorem hexIsTwoDigitsPerByte : Obligations.HexIsTwoDigitsPerByte :=
  ⟨hexdigit_eq_ofNat, fun s => ⟨s.hex, rfl, length_flatMap_byteDigits s.dg,
    fun _ _ => getElem?_flatMap_byteDigits⟩⟩

end Sys2Proof.Machine
end

section
/-! PROOFS. The PB operations one by one (R120 to R128), and their common frame (R119). -/

namespace Sys2Proof.Machine

/-- R126, R127: both registers the sub-counter's advance writes. -/
theorem advanceSub_eq (s : State) (p : Phase) : s.advanceSub p = { s with
    phase := if s.sub = 3 then p else s.phase
    sub := if s.sub = 3 then 0 else s.sub + 1 } := by
  unfold State.advanceSub
  by_cases h : s.sub = 3
  · simp only [if_pos h]
  · simp only [if_neg h]

/-- R123: an answered pull is the operation's own case, but for the reserved code (R107). -/
theorem onPull_of {s : State} {a : SrcAnswer} (hs : s.src.head? = some a) (ha : a ≠ .reserved)
    (k : SrcAnswer → Out) : onPull s k = k a := by
  unfold onPull
  rw [hs]
  cases a with
  | reserved => exact absurd rfl ha
  | _ => rfl

/-! ### What each operation does where it is selected -/

section
variable {s : State}

/-- R120. -/
theorem exec_pbStreamByte {b : Byte} (hp : s.phase = .streaming)
    (hs : s.src.head? = some (.byte b)) : exec .pbStreamByte s =
      .next { s with src := s.src.rest, bitcnt := s.bitcnt + 8, answer := some (.byte b) } :=
  (whenSelected_of (by simp [hp]) _ _).trans (onPull_of hs nofun _)

/-- R121. -/
theorem exec_pbStreamEos (hp : s.phase = .streaming) (hs : s.src.head? = some .eos) :
    exec .pbStreamEos s = .next { s with
      src := s.src.rest, origlen := s.bitcnt, bitcnt := s.bitcnt + 8, phase := .paddingZeroes,
      answer := some (.byte terminator) } :=
  (whenSelected_of (by simp [hp]) _ _).trans (onPull_of hs nofun _)

/-- R122, R214. -/
theorem exec_pbStreamFail {e : SrcErr} (hp : s.phase = .streaming)
    (hs : s.src.head? = some (.fail e)) : exec .pbStreamFail s = .next { s with
      src := s.src.rest, est := .fault, faultCode := .sourceReadError, errInfo := some e,
      answer := some (.sourceReadError e) } :=
  (whenSelected_of (by simp [hp]) _ _).trans (onPull_of hs nofun _)

/-- R124. -/
theorem exec_pbPadzZero (hp : s.phase = .paddingZeroes) (hc : s.bitcnt.toNat % 512 ≠ 448) :
    exec .pbPadzZero s =
      .next { s with bitcnt := s.bitcnt + 8, answer := some (.byte zeroByte) } :=
  whenSelected_of (by simp [hp, (at448_eq_false_iff s).mpr hc]) _ _

/-- R125. -/
theorem exec_pbPadzLen (hp : s.phase = .paddingZeroes) (hc : s.bitcnt.toNat % 512 = 448) :
    exec .pbPadzLen s = .next { s with
      phase := .lengthLow, sub := 1, answer := some (.byte (lengthByteLow s.origlen 0)) } :=
  whenSelected_of (by simp [hp, (at448_iff s).mpr hc]) _ _

/-- R126. -/
theorem exec_pbLenlo (hp : s.phase = .lengthLow) : exec .pbLenlo s = .next { s with
    phase := if s.sub = 3 then .lengthHigh else .lengthLow
    sub := if s.sub = 3 then 0 else s.sub + 1
    answer := some (.byte (lengthByteLow s.origlen s.sub)) } := by
  refine (whenSelected_of (by simp [hp]) _ _).trans ?_
  rw [advanceSub_eq, hp]
  rfl

/-- R127. -/
theorem exec_pbLenhi (hp : s.phase = .lengthHigh) : exec .pbLenhi s = .next { s with
    phase := if s.sub = 3 then .exhausted else .lengthHigh
    sub := if s.sub = 3 then 0 else s.sub + 1
    answer := some (.byte (lengthByteHigh s.origlen s.sub)) } := by
  refine (whenSelected_of (by simp [hp]) _ _).trans ?_
  rw [advanceSub_eq, hp]
  rfl

/-- R128. -/
theorem exec_pbExh (hp : s.phase = .exhausted) :
    exec .pbExh s = .next { s with answer := some .endOfData } :=
  whenSelected_of (by simp [hp]) _ _

end

/-- Settles O10: a selected operation whose pull SRC answers with a byte. -/
theorem streamByteCountsAndDelivers : Obligations.StreamByteCountsAndDelivers :=
  ⟨by decide, fun _ _ => exec_pbStreamByte⟩

/-- Settles O11: a selected operation whose pull SRC answers with EOS. -/
theorem streamEosFreezesLength : Obligations.StreamEosFreezesLength :=
  ⟨by decide, fun _ => exec_pbStreamEos⟩

/-- Settles O12: a selected operation whose pull SRC answers with a failure. -/
theorem streamFailTakesTheFault : Obligations.StreamFailTakesTheFault :=
  ⟨by decide, fun _ _ => exec_pbStreamFail⟩

/-- Settles O13: `at448` is the test on the number. -/
theorem paddingZeroCounts : Obligations.PaddingZeroCounts :=
  ⟨by decide, fun _ => exec_pbPadzZero⟩

/-- Settles O14: `at448` is the test on the number. -/
theorem paddingReachesTheLength : Obligations.PaddingReachesTheLength :=
  ⟨by decide, fun _ => exec_pbPadzLen⟩

/-- Settles O15, by what the advance of `sub` writes. -/
theorem lengthLowEmitsNextByte : Obligations.LengthLowEmitsNextByte :=
  ⟨by decide, fun _ => exec_pbLenlo⟩

/-- Settles O16, by what the advance of `sub` writes. -/
theorem lengthHighEmitsNextByte : Obligations.LengthHighEmitsNextByte :=
  ⟨by decide, fun _ => exec_pbLenhi⟩

/-- Settles O17: `phase` alone selects the operation. -/
theorem exhaustedSignalsEndOfData : Obligations.ExhaustedSignalsEndOfData :=
  ⟨by decide, fun _ => exec_pbExh⟩

/-! ### The common frame -/

/-- R119: a PB operation writes registers of the Reader, its source and the wire, and only
PB.STREAM.FAIL writes `est` and the fault registers. -/
theorem execPb_frame {i : Instr} {s t : State} (hi : (selectorOf i).format = .pb)
    (h : exec i s = .next t) :
    t = { s with
      phase := t.phase, bitcnt := t.bitcnt, origlen := t.origlen, sub := t.sub, src := t.src,
      answer := t.answer, est := t.est, faultCode := t.faultCode, errInfo := t.errInfo } ∧
    (i ≠ .pbStreamFail → t.est = s.est ∧ t.faultCode = s.faultCode ∧ t.errInfo = s.errInfo) := by
  cases i <;> cases hi <;> obtain ⟨-, h⟩ := whenSelected_next h
  case pbStreamByte | pbStreamEos | pbStreamFail =>
    rcases onPull_next h with rfl | ⟨a, ha⟩
    · exact ⟨rfl, fun _ => ⟨rfl, rfl, rfl⟩⟩
    · cases a <;> cases ha
      exact ⟨rfl, by simp⟩
  case pbLenlo | pbLenhi =>
    cases h
    rw [advanceSub_eq]
    exact ⟨rfl, fun _ => ⟨rfl, rfl, rfl⟩⟩
  case pbPadzZero | pbPadzLen | pbExh =>
    cases h
    exact ⟨rfl, fun _ => ⟨rfl, rfl, rfl⟩⟩

/-- Settles O18, from the common frame. -/
theorem readerOpsLeaveTheEngine : Obligations.ReaderOpsLeaveTheEngine := by
  intro i s t hi h
  obtain ⟨hframe, hfault⟩ := execPb_frame hi h
  have hblk (a : BitVec 6) : t.blkByte a = s.blkByte a := by rw [hframe]; rfl
  refine ⟨?_, ?_, ?_, ?_, ?_, ?_, ?_, ?_, ?_, hblk, ?_, ?_, ?_, ?_, ?_, hfault⟩ <;> rw [hframe]

end Sys2Proof.Machine
end

section
/-! PROOFS. The byte requests after those of `Streaming` that SRC answers with a byte, one equation for
each (R121 to R128). -/

namespace Sys2Proof.Machine

variable {s : State}

/-- R121. -/
theorem getByte_of_eos (hp : s.phase = .streaming) (hs : s.src.head? = some .eos) :
    getByte s = .next { s with
      src := s.src.rest, origlen := s.bitcnt, bitcnt := s.bitcnt + 8, phase := .paddingZeroes,
      answer := some (.byte terminator) } := by
  have hsel : getByte s = exec .pbStreamEos s.clearAnswer := by simp [getByte, hp, hs, exec]
  exact hsel.trans (exec_pbStreamEos hp hs)

/-- R124. -/
theorem getByte_of_padding (hp : s.phase = .paddingZeroes) (hc : s.bitcnt.toNat % 512 ≠ 448) :
    getByte s = .next { s with bitcnt := s.bitcnt + 8, answer := some (.byte zeroByte) } := by
  have h448 : s.clearAnswer.at448 = false := (at448_eq_false_iff _).mpr hc
  have hsel : getByte s = exec .pbPadzZero s.clearAnswer := by simp [getByte, hp, h448, exec]
  exact hsel.trans (exec_pbPadzZero hp hc)

/-- R125. -/
theorem getByte_of_padded (hp : s.phase = .paddingZeroes) (hc : s.bitcnt.toNat % 512 = 448) :
    getByte s = .next { s with
      phase := .lengthLow, sub := 1, answer := some (.byte (lengthByteLow s.origlen 0)) } := by
  have h448 : s.clearAnswer.at448 = true := (at448_iff _).mpr hc
  have hsel : getByte s = exec .pbPadzLen s.clearAnswer := by simp [getByte, hp, h448, exec]
  exact hsel.trans (exec_pbPadzLen hp hc)

/-- R126. -/
theorem getByte_of_lengthLow (hp : s.phase = .lengthLow) : getByte s = .next { s with
    phase := if s.sub = 3 then .lengthHigh else .lengthLow
    sub := if s.sub = 3 then 0 else s.sub + 1
    answer := some (.byte (lengthByteLow s.origlen s.sub)) } := by
  have hsel : getByte s = exec .pbLenlo s.clearAnswer := by simp [getByte, hp, exec]
  exact hsel.trans (exec_pbLenlo hp)

/-- R127. -/
theorem getByte_of_lengthHigh (hp : s.phase = .lengthHigh) : getByte s = .next { s with
    phase := if s.sub = 3 then .exhausted else .lengthHigh
    sub := if s.sub = 3 then 0 else s.sub + 1
    answer := some (.byte (lengthByteHigh s.origlen s.sub)) } := by
  have hsel : getByte s = exec .pbLenhi s.clearAnswer := by simp [getByte, hp, exec]
  exact hsel.trans (exec_pbLenhi hp)

/-- R128. -/
theorem getByte_of_exhausted (hp : s.phase = .exhausted) :
    getByte s = .next { s with answer := some .endOfData } := by
  have hsel : getByte s = exec .pbExh s.clearAnswer := by simp [getByte, hp, exec]
  exact hsel.trans (exec_pbExh hp)

end Sys2Proof.Machine
end

section
/-! PROOFS. The stream the Reader produces (R130). What a byte request answers depends on the Reader's
registers and its source alone, so the stream is put together from pieces that lead from one Reader to
the next. -/

namespace Sys2Proof.Machine

/-- The Reader: its four registers and its source. -/
structure Reader where
  phase : Phase
  bitcnt : Count
  origlen : Count
  sub : BitVec 2
  src : Source

/-- The Reader of a machine state. -/
def State.reader (s : State) : Reader := ⟨s.phase, s.bitcnt, s.origlen, s.sub, s.src⟩

theorem reader_eq_iff {s : State} {p : Phase} {c o : Count} {k : BitVec 2} {r : Source} :
    s.reader = ⟨p, c, o, k, r⟩ ↔
      s.phase = p ∧ s.bitcnt = c ∧ s.origlen = o ∧ s.sub = k ∧ s.src = r := by
  simp [State.reader]

/-- Asked for as many bytes, the Reader `q` answers with `bytes` and is `q'` then, whatever the rest of
the machine holds. -/
def Reader.Produces (q : Reader) (bytes : List Byte) (q' : Reader) : Prop :=
  ∀ s : State, s.reader = q → ∃ u, getBytes bytes.length s = some (bytes, u) ∧ u.reader = q'

/-! ### Putting pieces together -/

/-- R118: a request answered with a byte gives the first byte. -/
theorem getBytes_succ {s t : State} {b : Byte} (hg : getByte s = .next t)
    (ha : t.answer = some (.byte b)) (n : Nat) :
    getBytes (n + 1) s = (getBytes n t).map fun r => (b :: r.1, r.2) := by
  simp only [getBytes, hg, ha]

/-- Bytes come from requests that are answered with a byte. -/
theorem exists_byte_of_getBytes_succ {n : Nat} {s : State} {r : List Byte × State}
    (h : getBytes (n + 1) s = some r) :
    ∃ t b, getByte s = .next t ∧ t.answer = some (.byte b) := by
  unfold getBytes at h
  split at h
  · next t hg =>
    split at h
    · next b ha => exact ⟨t, b, hg, ha⟩
    all_goals cases h
  all_goals cases h

/-- Asking for bytes again takes the stream up where it stopped. -/
theorem getBytes_add {m n : Nat} {s t u : State} {l l' : List Byte}
    (h : getBytes m s = some (l, t)) (h' : getBytes n t = some (l', u)) :
    getBytes (m + n) s = some (l ++ l', u) := by
  induction m generalizing s l with
  | zero => cases h; rwa [Nat.zero_add]
  | succ m ih =>
    obtain ⟨v, b, hg, ha⟩ := exists_byte_of_getBytes_succ h
    rw [getBytes_succ hg ha] at h
    obtain ⟨⟨l, t⟩, hrest, rfl, rfl⟩ := Option.map_eq_some_iff.mp h
    rw [Nat.add_right_comm, getBytes_succ hg ha, ih hrest]
    rfl

theorem Reader.Produces.nil (q : Reader) : q.Produces [] q := fun s hs => ⟨s, rfl, hs⟩

theorem Reader.Produces.append {q q' q'' : Reader} {l l' : List Byte} (h : q.Produces l q')
    (h' : q'.Produces l' q'') : q.Produces (l ++ l') q'' := by
  intro s hs
  obtain ⟨t, ht, hq⟩ := h s hs
  obtain ⟨u, hu, hq'⟩ := h' t hq
  exact ⟨u, by rw [List.length_append, getBytes_add ht hu], hq'⟩

/-- A byte request answered with a byte is a piece of one byte. -/
theorem Reader.Produces.single {q q' : Reader} {b : Byte} (h : ∀ s : State, s.reader = q →
    ∃ t, getByte s = .next t ∧ t.answer = some (.byte b) ∧ t.reader = q') : q.Produces [b] q' := by
  intro s hs
  obtain ⟨t, hg, ha, hq⟩ := h s hs
  exact ⟨t, getBytes_succ hg ha 0, hq⟩

/-! ### The pieces of one byte -/

section
variable (c o : Count) (k : BitVec 2) {r : Source}

/-- R120. -/
theorem produces_streamByte {b : Byte} (hr : r.head? = some (.byte b)) :
    Reader.Produces ⟨.streaming, c, o, k, r⟩ [b] ⟨.streaming, c + 8, o, k, r.rest⟩ := by
  refine .single fun s hs => ?_
  obtain ⟨hp, rfl, rfl, rfl, rfl⟩ := reader_eq_iff.mp hs
  exact ⟨_, getByte_of_byte hp hr, rfl, reader_eq_iff.mpr ⟨hp, rfl, rfl, rfl, rfl⟩⟩

/-- R121. -/
theorem produces_streamEos (hr : r.head? = some .eos) :
    Reader.Produces ⟨.streaming, c, o, k, r⟩ [terminator]
      ⟨.paddingZeroes, c + 8, c, k, r.rest⟩ := by
  refine .single fun s hs => ?_
  obtain ⟨hp, rfl, rfl, rfl, rfl⟩ := reader_eq_iff.mp hs
  exact ⟨_, getByte_of_eos hp hr, rfl, rfl⟩

variable (r)

/-- R124. -/
theorem produces_padzZero (hc : c.toNat % 512 ≠ 448) :
    Reader.Produces ⟨.paddingZeroes, c, o, k, r⟩ [zeroByte]
      ⟨.paddingZeroes, c + 8, o, k, r⟩ := by
  refine .single fun s hs => ?_
  obtain ⟨hp, rfl, rfl, rfl, rfl⟩ := reader_eq_iff.mp hs
  exact ⟨_, getByte_of_padding hp hc, rfl, reader_eq_iff.mpr ⟨hp, rfl, rfl, rfl, rfl⟩⟩

/-- R125. -/
theorem produces_padzLen (hc : c.toNat % 512 = 448) :
    Reader.Produces ⟨.paddingZeroes, c, o, k, r⟩ [lengthByteLow o 0] ⟨.lengthLow, c, o, 1, r⟩ := by
  refine .single fun s hs => ?_
  obtain ⟨hp, rfl, rfl, rfl, rfl⟩ := reader_eq_iff.mp hs
  exact ⟨_, getByte_of_padded hp hc, rfl, rfl⟩

/-- R126. -/
theorem produces_lenlo : Reader.Produces ⟨.lengthLow, c, o, k, r⟩ [lengthByteLow o k]
    ⟨if k = 3 then .lengthHigh else .lengthLow, c, o, if k = 3 then 0 else k + 1, r⟩ := by
  refine .single fun s hs => ?_
  obtain ⟨hp, rfl, rfl, rfl, rfl⟩ := reader_eq_iff.mp hs
  exact ⟨_, getByte_of_lengthLow hp, rfl, rfl⟩

/-- R127. -/
theorem produces_lenhi : Reader.Produces ⟨.lengthHigh, c, o, k, r⟩ [lengthByteHigh o k]
    ⟨if k = 3 then .exhausted else .lengthHigh, c, o, if k = 3 then 0 else k + 1, r⟩ := by
  refine .single fun s hs => ?_
  obtain ⟨hp, rfl, rfl, rfl, rfl⟩ := reader_eq_iff.mp hs
  exact ⟨_, getByte_of_lengthHigh hp, rfl, rfl⟩

end

/-! ### Message, zeroes and length -/

/-- R21, R39: the count after one byte more. -/
theorem ofNat_eight_mul_add_eight (n : Nat) :
    BitVec.ofNat 64 (8 * n) + 8 = BitVec.ofNat 64 (8 * (n + 1)) := by
  rw [Nat.mul_add, BitVec.ofNat_add]; rfl

/-- R40: the length begins after 56 bytes of a block. -/
theorem toNat_eight_mul_mod (n : Nat) :
    (BitVec.ofNat 64 (8 * n)).toNat % 512 = 448 ↔ n % 64 = 56 := by
  rw [BitVec.toNat_ofNat]
  omega

/-- R42. -/
theorem zeroCount_lt (n : Nat) : zeroCount n < 64 := Nat.mod_lt _ (by decide)

/-- R120, L times: the bytes of SRC are handed on and counted. -/
theorem produces_message (o : Count) (k : BitVec 2) {msg : List Byte} {n : Nat} {r r' : Source}
    (hr : r.gives (msg.map .byte) r') :
    Reader.Produces ⟨.streaming, BitVec.ofNat 64 (8 * n), o, k, r⟩ msg
      ⟨.streaming, BitVec.ofNat 64 (8 * (n + msg.length)), o, k, r'⟩ := by
  induction msg generalizing n r with
  | nil => cases hr; exact .nil _
  | cons b msg ih =>
    obtain ⟨hb, hrest⟩ := hr
    have hfirst := produces_streamByte (BitVec.ofNat 64 (8 * n)) o k hb
    rw [ofNat_eight_mul_add_eight] at hfirst
    have hmsg := hfirst.append (ih hrest)
    rwa [Nat.add_right_comm] at hmsg

/-- R124: zero bytes are delivered until the block holds 56 bytes. -/
theorem produces_zeroes (o : Count) (k : BitVec 2) (r : Source) {m n : Nat} (hm : m < 64)
    (hend : (n + m) % 64 = 56) :
    Reader.Produces ⟨.paddingZeroes, BitVec.ofNat 64 (8 * n), o, k, r⟩ (List.replicate m zeroByte)
      ⟨.paddingZeroes, BitVec.ofNat 64 (8 * (n + m)), o, k, r⟩ := by
  induction m generalizing n with
  | zero => exact .nil _
  | succ m ih =>
    have hopen : n % 64 ≠ 56 := by omega
    have hfirst := produces_padzZero _ o k r (mt (toNat_eight_mul_mod n).mp hopen)
    rw [ofNat_eight_mul_add_eight] at hfirst
    have hzeroes := hfirst.append (ih (n := n + 1) (by omega) (by omega))
    rwa [Nat.add_right_comm] at hzeroes

/-- R125 to R127: the eight bytes of the length. -/
theorem produces_lengthField {c : Count} (o : Count) (k : BitVec 2) (r : Source)
    (hc : c.toNat % 512 = 448) :
    Reader.Produces ⟨.paddingZeroes, c, o, k, r⟩ (lengthField o) ⟨.exhausted, c, o, 0, r⟩ :=
  have low : Reader.Produces ⟨.lengthLow, c, o, 1, r⟩ _ ⟨.lengthHigh, c, o, 0, r⟩ :=
    ((produces_lenlo c o 1 r).append (produces_lenlo c o 2 r)).append (produces_lenlo c o 3 r)
  have high : Reader.Produces ⟨.lengthHigh, c, o, 0, r⟩ _ ⟨.exhausted, c, o, 0, r⟩ :=
    (((produces_lenhi c o 0 r).append (produces_lenhi c o 1 r)).append
      (produces_lenhi c o 2 r)).append (produces_lenhi c o 3 r)
  ((produces_padzLen c o k r hc).append low).append high

/-- R130: message, terminator, zeroes and length, one after the other. -/
theorem produces_paddedStream (o : Count) (k : BitVec 2) {msg : List Byte} {r rest : Source}
    (hr : r.gives (msg.map .byte ++ [.eos]) rest) :
    ∃ c, Reader.Produces ⟨.streaming, 0, o, k, r⟩ (paddedStream msg)
      ⟨.exhausted, c, BitVec.ofNat 64 (8 * msg.length), 0, rest⟩ := by
  obtain ⟨q, hmsg, heos, rfl⟩ := Source.gives_append.mp hr
  have hmessage := produces_message o k (n := 0) hmsg
  rw [Nat.zero_add] at hmessage
  have hterm := produces_streamEos (BitVec.ofNat 64 (8 * msg.length)) o k heos
  rw [ofNat_eight_mul_add_eight] at hterm
  have hfull : (msg.length + 1 + zeroCount msg.length) % 64 = 56 := by
    have := zeroCount_add_mod msg.length
    omega
  have hzeroes := produces_zeroes (BitVec.ofNat 64 (8 * msg.length)) k q.rest
    (zeroCount_lt _) hfull
  have hlength := produces_lengthField (BitVec.ofNat 64 (8 * msg.length)) k q.rest
    ((toNat_eight_mul_mod _).mpr hfull)
  exact ⟨_, (hmessage.append (hterm.append hzeroes)).append hlength⟩

/-- Settles O56, from the pieces of the stream. -/
theorem readerProducesThePaddedStream : Obligations.ReaderProducesThePaddedStream := by
  intro msg rest s hp hcnt hsub hgives
  have hlen := length_paddedStream msg
  have hblocks := length_eq_blocks msg.length
  refine ⟨by omega, by omega, ?_⟩
  obtain ⟨c, hall⟩ := produces_paddedStream s.origlen 0 hgives
  obtain ⟨u, hu, hq⟩ := hall s (reader_eq_iff.mpr ⟨hp, hcnt, rfl, hsub, rfl⟩)
  obtain ⟨hexh, -, horig, -, hsrc⟩ := reader_eq_iff.mp hq
  exact ⟨u, hu, hexh, hsrc, horig, fun a => getByte_of_exhausted hexh⟩

end Sys2Proof.Machine
end

section
/-! PROOFS. What each BA operation makes of the answer of its byte request (R141 to R145, R148). -/

namespace Sys2Proof.Machine

/-! ### A BA operation by the answer of its byte request -/

section
variable {s u : State} {w : BitVec 4} {k : BitVec 2}

theorem exec_baAt_of_selected (he : s.est = .fetch) (hw : s.wordpos = w) (hk : s.bytepos = k) :
    exec (baAt w k) s = byteStep s (fun b u => u.takeByte b) (endOfDataAt k) := by
  rw [exec_baAt, whenSelected_of (assembling_iff.mpr ⟨he, hw, hk⟩)]

variable (he : s.est = .fetch) (hw : s.wordpos = w) (hk : s.bytepos = k) (hg : getByte s = .next u)
include he hw hk hg

/-- R141 to R144. -/
theorem exec_baAt_of_byte {b : Byte} (ha : u.answer = some (.byte b)) :
    exec (baAt w k) s = .next (u.takeByte b) := by
  rw [exec_baAt_of_selected he hw hk, byteStep, hg]
  simp only [ha]
  rfl

/-- R141, R145. -/
theorem exec_baAt_of_endOfData (ha : u.answer = some .endOfData) :
    exec (baAt w k) s = endOfDataAt k u.clearAnswer := by
  rw [exec_baAt_of_selected he hw hk, byteStep, hg]
  simp only [ha]

/-- R146: nothing is written beyond the fault entry. -/
theorem exec_baAt_of_sourceReadError {e : SrcErr} (ha : u.answer = some (.sourceReadError e)) :
    exec (baAt w k) s = .next u.clearAnswer := by
  rw [exec_baAt_of_selected he hw hk, byteStep, hg]
  simp only [ha]

end

/-! ### EndOfData by the byte position -/

/-- R141. -/
theorem endOfDataAt_zero (u : State) : endOfDataAt 0 u = .next { u with est := .done } := rfl

/-- R145. -/
theorem endOfDataAt_of_ne_zero {k : BitVec 2} (h0 : k ≠ 0) (u : State) :
    endOfDataAt k u = .refused .endOfDataInsideWord := if_neg h0

/-! ### The byte taken, by the byte position -/

section
variable {u : State} {w : BitVec 4} {k : BitVec 2} (hw : u.wordpos = w) (b : Byte)
include hw

/-- R141: lane 0 is the byte, the other lanes are cleared. -/
theorem takeByte_of_first (hk : u.bytepos = 0) : u.takeByte b = { u with
    M := u.M.set w.toNat (b.setWidth 32) w.isLt, bytepos := 1, answer := none } := by
  subst hw
  simp [State.takeByte, intoLane, hk]

/-- R142, R143. -/
theorem takeByte_of_middle (hk : u.bytepos = k) (h0 : k ≠ 0) (h3 : k ≠ 3) :
    u.takeByte b = { u with
      M := u.M.set w.toNat (u.readBlk w ||| intoLane b k.toNat) w.isLt
      bytepos := k + 1, answer := none } := by
  subst hw hk
  have hlast : ¬(u.wordpos = 15 ∧ u.bytepos = 3) := fun hlast => h3 hlast.2
  simp only [State.takeByte, if_neg h0, if_neg h3, if_neg hlast]

/-- R144. -/
theorem takeByte_of_last (hk : u.bytepos = 3) : u.takeByte b = { u with
    M := u.M.set w.toNat (u.readBlk w ||| intoLane b 3) w.isLt
    wordpos := w + 1, bytepos := 0
    est := if w = 15 then .save else u.est, answer := none } := by
  subst hw
  simp [State.takeByte, hk]

end

/-! ### The four BA operations -/

/-- Settles O19, by the three answers at the first byte of a word. -/
theorem firstByteReplacesTheWord : Obligations.FirstByteReplacesTheWord := by
  refine ⟨fun w => decodeSelector_ba w 0, fun s t w he hw hk hg => ⟨fun b ha => ?_,
    exec_baAt_of_endOfData he hw hk hg, fun e => exec_baAt_of_sourceReadError he hw hk hg⟩⟩
  obtain ⟨-, hw', hk', -⟩ := getByte_frame hg
  rw [← takeByte_of_first (hw'.trans hw) b (hk'.trans hk)]
  exact exec_baAt_of_byte he hw hk hg ha

/-- R142, R143: the second and the third byte of a word alike. -/
theorem exec_baAt_middle {s t : State} {w : BitVec 4} {k : BitVec 2} (h0 : k ≠ 0) (h3 : k ≠ 3)
    (he : s.est = .fetch) (hw : s.wordpos = w) (hk : s.bytepos = k) (hg : getByte s = .next t) :
    (∀ b, t.answer = some (.byte b) → exec (baAt w k) s = .next { t with
      M := t.M.set w.toNat (s.readBlk w ||| intoLane b k.toNat) w.isLt
      bytepos := k + 1, answer := none }) ∧
    (t.answer = some .endOfData → exec (baAt w k) s = .refused .endOfDataInsideWord) ∧
    (∀ e, t.answer = some (.sourceReadError e) →
      exec (baAt w k) s = .next { t with answer := none }) := by
  refine ⟨fun b ha => ?_, fun ha => ?_, fun e => exec_baAt_of_sourceReadError he hw hk hg⟩
  · obtain ⟨hM, hw', hk', -⟩ := getByte_frame hg
    rw [exec_baAt_of_byte he hw hk hg ha,
      takeByte_of_middle (hw'.trans hw) b (hk'.trans hk) h0 h3, readBlk_congr hM]
  · rw [exec_baAt_of_endOfData he hw hk hg ha, endOfDataAt_of_ne_zero h0]

/-- Settles O20: both bytes are inside their word. -/
theorem middleBytesAreOredIn : Obligations.MiddleBytesAreOredIn :=
  ⟨fun w => ⟨decodeSelector_ba w 1, decodeSelector_ba w 2⟩,
    fun _ _ _ => exec_baAt_middle (k := 1) (by decide) (by decide),
    fun _ _ _ => exec_baAt_middle (k := 2) (by decide) (by decide)⟩

/-- Settles O21, by the three answers at the last byte of a word. -/
theorem fourthByteCompletesTheWord : Obligations.FourthByteCompletesTheWord := by
  refine ⟨fun w => decodeSelector_ba w 3, fun s t w he hw hk hg => ⟨fun b ha => ?_,
    exec_baAt_of_endOfData he hw hk hg, fun e => exec_baAt_of_sourceReadError he hw hk hg⟩⟩
  obtain ⟨hM, hw', hk', -⟩ := getByte_frame hg
  have htake := takeByte_of_last (hw'.trans hw) b (hk'.trans hk)
  rw [(getByte_byte_frame hg ha).1, he, readBlk_congr hM] at htake
  exact (exec_baAt_of_byte he hw hk hg ha).trans (congrArg _ htake)

/-! ### A byte to come -/

/-- R120 to R128: a byte request puts `nextByte` on the wire. -/
theorem getByte_of_nextByte {s : State} {b : Byte} (h : s.nextByte = some b) :
    ∃ u, getByte s = .next u ∧ u.answer = some (.byte b) := by
  unfold State.nextByte at h
  cases hp : s.phase with
  | streaming =>
    cases hs : s.src.head? with
    | none => simp [hp, hs] at h
    | some a =>
      cases a <;> simp [hp, hs] at h
      case byte => exact ⟨_, getByte_of_byte hp hs, by simp [h]⟩
      case eos => exact ⟨_, getByte_of_eos hp hs, by simp [h]⟩
  | paddingZeroes =>
    cases h448 : s.at448 <;> simp [hp, h448] at h
    case false => exact ⟨_, getByte_of_padding hp ((at448_eq_false_iff s).mp h448), by simp [h]⟩
    case true =>
      exact ⟨_, getByte_of_padded hp ((at448_iff s).mp h448), by simp [lengthByteLow, h]⟩
  | lengthLow =>
    simp [hp] at h
    exact ⟨_, getByte_of_lengthLow hp, by simp [h]⟩
  | lengthHigh =>
    simp [hp] at h
    exact ⟨_, getByte_of_lengthHigh hp, by simp [h]⟩
  | exhausted => simp [hp] at h

/-- R24: position 63 is the last byte of the last word. -/
theorem pos_eq_last_iff {s : State} : s.pos = 63 ↔ s.wordpos = 15 ∧ s.bytepos = 3 :=
  pos_eq_append_iff (w := 15) (k := 3)

/-- Settles O22: the next state is the one in which the byte is taken. -/
theorem assemblyStepCompletes : Obligations.AssemblyStepCompletes := by
  intro s b he hb
  obtain ⟨u, hg, ha⟩ := getByte_of_nextByte hb
  obtain ⟨hM, hw, hk, hregs, -⟩ := getByte_frame hg
  have hba {k : BitVec 2} (hbyte : s.bytepos = k) :
      exec (baAt s.wordpos k) s = .next (u.takeByte b) := exec_baAt_of_byte he rfl hbyte hg ha
  refine ⟨u.takeByte b, (execEnFetch_eq_exec_baAt he).trans (hba rfl), hba, hba, hba, hba,
    ?_, ?_, ?_, (u.takeByte_src b).trans (getByte_src hg), rfl, hregs⟩
  · rw [← hw, readBlk_takeByte_same, hk, readBlk_congr hM]
    rfl
  · rw [State.takeByte_pos, State.pos, hw, hk]
    rfl
  · simp only [State.takeByte_est, hw, hk, (getByte_byte_frame hg ha).1, he, pos_eq_last_iff]

/-! ### EndOfData -/

/-- R141, R145: an exhausted Reader answers EndOfData and changes nothing. -/
theorem exec_baAt_of_exhausted {s : State} (he : s.est = .fetch) (hp : s.phase = .exhausted) :
    exec (baAt s.wordpos s.bytepos) s = endOfDataAt s.bytepos s.clearAnswer :=
  exec_baAt_of_endOfData (u := { s with answer := some .endOfData }) he rfl rfl
    (getByte_of_exhausted hp) rfl

theorem exec_enFetch_of_exhausted {s : State} (he : s.est = .fetch) (hp : s.phase = .exhausted) :
    exec .enFetch s = endOfDataAt s.bytepos s.clearAnswer :=
  (execEnFetch_eq_exec_baAt he).trans (exec_baAt_of_exhausted he hp)

/-- Settles O24: EndOfData has no meaning past the first byte of a word. -/
theorem endOfDataInsideWordIsRefused : Obligations.EndOfDataInsideWordIsRefused := by
  intro s he hp h0
  rw [exec_enFetch_of_exhausted he hp, endOfDataAt_of_ne_zero h0]

/-- Settles O25: EndOfData at the first byte of a word moves `est` alone. -/
theorem endOfDataEndsTheRun : Obligations.EndOfDataEndsTheRun := by
  intro s he hp h0
  have hfetch := exec_enFetch_of_exhausted he hp
  have hba := exec_baAt_of_exhausted he hp
  rw [h0, endOfDataAt_zero] at hfetch hba
  exact ⟨hfetch, hba⟩

end Sys2Proof.Machine
end

section
/-! PROOFS. The round operations (R160 to R168). -/

namespace Sys2Proof.Machine

/-! ### The quarter of a round index -/

/-- R28: `i[5:4]` on numbers. -/
theorem toNat_quarterOf (i : BitVec 6) : (quarterOf i).toNat = i.toNat / 16 := by
  rw [quarterOf, BitVec.extractLsb'_toNat, Nat.shiftRight_eq_div_pow]
  omega

theorem quarterOf_append (q : BitVec 2) (t : BitVec 4) : quarterOf (q ++ t) = q := by
  revert q t; decide

/-! ### The common step -/

section
variable {s : State} {q : BitVec 2}

/-- R160: the common step in ROUND. -/
theorem roundStep_of_round (he : s.est = .round) (f : Word) (g : BitVec 4) :
    roundStep f g s = { s with
      A := s.D, D := s.C, C := s.B
      B := s.B + rotl32 (f + s.A + roundConstant s.i + s.readBlk g) (shiftAmount s.i).toNat
      i := if s.i = 63 then 63 else s.i + 1
      est := if s.i = 63 then .chain else .round } := by
  unfold roundStep
  rw [he]
  by_cases hlast : s.i = 63
  · simp only [hlast]
  · simp only [if_neg hlast]

variable (he : s.est = .round) (hq : s.i.toNat / 16 = q.toNat)
include he hq

/-- R93, R193: in ROUND the operation of the quarter of `i` is selected. -/
theorem whenSelected_inRound (m : String) (o : Out) : whenSelected (s.inRound q s.i) m o = o :=
  have hquarter : quarterOf s.i = q := BitVec.eq_of_toNat_eq ((toNat_quarterOf s.i).trans hq)
  whenSelected_of (inRound_iff.mpr ⟨he, rfl, hquarter⟩) m o

/-- R160 to R163: a round of one of the first three quarters. -/
theorem whenSelected_inRound_of_ne_last_quarter (hq3 : q ≠ 3) (m : String) (f : Word)
    (g : BitVec 4) : whenSelected (s.inRound q s.i) m (.next (roundStep f g s)) = .next { s with
      A := s.D, D := s.C, C := s.B
      B := s.B + rotl32 (f + s.A + roundConstant s.i + s.readBlk g) (shiftAmount s.i).toNat
      i := s.i + 1 } := by
  have hlast : s.i ≠ 63 := fun hlast => hq3 (BitVec.eq_of_toNat_eq (by rw [← hq, hlast]; rfl))
  rw [whenSelected_inRound he hq]
  simp only [roundStep, if_neg hlast]

end

/-! ### The four RND operations -/

/-- R99: forming a word index takes its number modulo 16. -/
theorem ofNat_four_mod (n : Nat) : BitVec.ofNat 4 (n % 16) = BitVec.ofNat 4 n :=
  BitVec.eq_of_toNat_eq (by simp)

/-- Settles O27: quarter 0 of the common step. -/
theorem roundFComputes : Obligations.RoundFComputes :=
  ⟨fun t => decodeSelector_selectorOf (i := .rndF _) (beq_of_eq (quarterOf_append 0 t)),
    fun _ he hi => whenSelected_inRound_of_ne_last_quarter (q := 0) he hi (by decide) _ _ _⟩

/-- Settles O28: quarter 1 of the common step. -/
theorem roundGComputes : Obligations.RoundGComputes := by
  refine ⟨fun t => decodeSelector_selectorOf (i := .rndG _) (beq_of_eq (quarterOf_append 1 t)),
    fun s he hi => ?_⟩
  rw [ofNat_four_mod]
  exact whenSelected_inRound_of_ne_last_quarter (q := 1) he hi (by decide) _ _ _

/-- Settles O29: quarter 2 of the common step. -/
theorem roundHComputes : Obligations.RoundHComputes := by
  refine ⟨fun t => decodeSelector_selectorOf (i := .rndH _) (beq_of_eq (quarterOf_append 2 t)),
    fun s he hi => ?_⟩
  rw [ofNat_four_mod]
  exact whenSelected_inRound_of_ne_last_quarter (q := 2) he hi (by decide) _ _ _

/-- Settles O30: quarter 3 of the common step, with the hand-over to CHAIN. -/
theorem roundIComputes : Obligations.RoundIComputes := by
  refine ⟨fun t => decodeSelector_selectorOf (i := .rndI _) (beq_of_eq (quarterOf_append 3 t)),
    fun s he hi => ?_⟩
  rw [ofNat_four_mod]
  exact (whenSelected_inRound (q := 3) he hi _ _).trans (congrArg _ (roundStep_of_round he _ _))

/-- Settles O38: EN.ROUND is the common step with the operands of `i`. -/
theorem roundStepCompletes : Obligations.RoundStepCompletes := by
  intro s he
  have hround : exec .enRound s = _ := execEnRound_eq s he
  rw [roundStep_of_round he] at hround
  exact ⟨_, hround, rfl, rfl, rfl, rfl⟩

/-! ### The words of a quarter -/

/-- The step of a quarter that uses word `g`: R99 inverted modulo 16, where 5, 3 and 7 have the
inverses 13, 11 and 7. -/
def stepOfWord (q : BitVec 2) (g : BitVec 4) : BitVec 4 :=
  if q = 0 then g else if q = 1 then 13 * (g - 1) else if q = 2 then 11 * (g - 5) else 7 * g

theorem wordIndexAt_stepOfWord (q : BitVec 2) (g : BitVec 4) :
    wordIndexAt (q ++ stepOfWord q g) = g := by
  revert q g; decide

theorem stepOfWord_wordIndexAt (q : BitVec 2) (t : BitVec 4) :
    stepOfWord q (wordIndexAt (q ++ t)) = t := by
  revert q t; decide

/-- Settles O32: in a quarter the word index is inverted by `stepOfWord`. -/
theorem eachWordOncePerQuarter : Obligations.EachWordOncePerQuarter := fun q g =>
  ⟨stepOfWord q g, wordIndexAt_stepOfWord q g, fun u hu => hu ▸ (stepOfWord_wordIndexAt q u).symm⟩

/-! ### The nonlinear functions bit by bit -/

section
variable (b c d : Word) {k : Nat} (hk : k < 32)

theorem getLsbD_mixH : (mixH b c d).getLsbD k =
    (b.getLsbD k != (c.getLsbD k != d.getLsbD k)) := by
  simp [mixH]

include hk

theorem getLsbD_mixF : (mixF b c d).getLsbD k =
    if b.getLsbD k then c.getLsbD k else d.getLsbD k := by
  simp only [mixF, BitVec.getLsbD_or, BitVec.getLsbD_and, BitVec.getLsbD_not, hk]
  cases b.getLsbD k <;> simp

/-- R162: G is F with its operands in turn. -/
theorem getLsbD_mixG : (mixG b c d).getLsbD k =
    if d.getLsbD k then b.getLsbD k else c.getLsbD k :=
  getLsbD_mixF d b c hk

theorem getLsbD_mixI : (mixI b c d).getLsbD k =
    (c.getLsbD k != (b.getLsbD k || !d.getLsbD k)) := by
  simp [mixI, hk]

end

/-- Settles O33, function by function. -/
theorem mixFunctionsBitByBit : Obligations.MixFunctionsBitByBit := fun b c d _ hk =>
  ⟨getLsbD_mixF b c d hk, getLsbD_mixG b c d hk, getLsbD_mixH b c d, getLsbD_mixI b c d hk⟩

end Sys2Proof.Machine
end

section
/-! PROOFS. The operations of the sequencer: EN.FETCH by its decoded position, EN.SAVE, and
the two that hold the state (R191, R192, R195, R196). -/

namespace Sys2Proof.Machine

/-- Settles O6: `pos` decodes to the operation of its two parts. -/
theorem fetchRunsDecodedAssembly : Obligations.FetchRunsDecodedAssembly := by
  refine ⟨rfl, fun s i he hd => ?_⟩
  rw [State.pos, decodeSelector_ba] at hd
  cases hd
  exact execEnFetch_eq_exec_baAt he

/-- Settles O35. -/
theorem saveCopiesTheRegisters : Obligations.SaveCopiesTheRegisters :=
  ⟨rfl, fun _ he => whenSelected_of (by simp [he]) _ _⟩

section
variable {s : State}

/-- R195. -/
theorem exec_enDone (he : s.est = .done) : exec .enDone s = .next s :=
  whenSelected_of (by simp [he]) _ _

/-- R196. -/
theorem exec_enFault (he : s.est = .fault) : exec .enFault s = .next s :=
  whenSelected_of (by simp [he]) _ _

end

/-- Settles O37: the outputs are read off `est`. -/
theorem doneAndFaultHold : Obligations.DoneAndFaultHold :=
  ⟨rfl, rfl,
    fun _ he => ⟨exec_enDone he, by simp [State.digestValid, State.busy, State.faultFlag, he]⟩,
    fun _ he => ⟨exec_enFault he, by simp [State.digestValid, State.busy, State.faultFlag, he]⟩⟩

end Sys2Proof.Machine
end

section
/-! PROOFS. A run on a whole message (R201, R202). The Engine packs whatever bytes the Reader
produces, so the blocks of the padded stream are assembled as those of SRC are: the state is the one
that bytes of SRC would leave (`State.filled`), with the Reader that produced the stream put in. -/

namespace Sys2Proof.Machine

/-! ### Putting another Reader in -/

/-- The state with the Reader `q`. -/
def State.withReader (s : State) (q : Reader) : State :=
  { s with phase := q.phase, bitcnt := q.bitcnt, origlen := q.origlen, sub := q.sub, src := q.src }

@[simp] theorem withReader_reader (s : State) : s.withReader s.reader = s := rfl

@[simp] theorem withReader_regs (s : State) (q : Reader) : (s.withReader q).regs = s.regs := rfl

/-- R118, R119: what a byte request answers, and what it makes of the Reader, depends on the Reader
alone, and the rest of the machine stays. -/
theorem getByte_withReader {v u : State} {b : Byte} (hg : getByte v = .next u)
    (ha : u.answer = some (.byte b)) (s : State) :
    getByte (s.withReader v.reader) = .next ((s.withReader u.reader).deliver (.byte b)) := by
  rcases getByte_next hg with ⟨-, -, rfl⟩ | ⟨_, hp, hs, rfl⟩ | ⟨hp, hs, rfl⟩ | ⟨_, -, -, rfl⟩ |
    ⟨hp, h448, rfl⟩ | ⟨hp, h448, rfl⟩ | ⟨hp, rfl⟩ | ⟨hp, rfl⟩ | ⟨-, rfl⟩
  · simp at ha
  · cases ha
    exact getByte_of_byte hp hs
  · cases ha
    exact getByte_of_eos hp hs
  · simp at ha
  · cases ha
    exact getByte_of_padding hp ((at448_eq_false_iff v).mp h448)
  · cases ha
    exact getByte_of_padded hp ((at448_iff v).mp h448)
  · cases ha
    rw [advanceSub_eq, hp]
    exact getByte_of_lengthLow hp
  · cases ha
    rw [advanceSub_eq, hp]
    exact getByte_of_lengthHigh hp
  · simp at ha

/-! ### Cutting a stream -/

/-- A stream of bytes can be cut after any number of them. -/
theorem getBytes_split {m n : Nat} {v u : State} {l : List Byte}
    (h : getBytes (m + n) v = some (l, u)) :
    ∃ w, getBytes m v = some (l.take m, w) ∧ getBytes n w = some (l.drop m, u) := by
  induction m generalizing v l with
  | zero => exact ⟨v, rfl, by rwa [Nat.zero_add] at h⟩
  | succ m ih =>
    rw [Nat.add_right_comm] at h
    obtain ⟨t, b, hg, ha⟩ := exists_byte_of_getBytes_succ h
    rw [getBytes_succ hg ha] at h
    obtain ⟨⟨l, u⟩, hrest, rfl, rfl⟩ := Option.map_eq_some_iff.mp h
    obtain ⟨w, hw, hu⟩ := ih hrest
    exact ⟨w, by rw [getBytes_succ hg ha, hw]; rfl, hu⟩

theorem getBytes_one {v u : State} {b : Byte} (h : getBytes 1 v = some ([b], u)) :
    getByte v = .next u ∧ u.answer = some (.byte b) := by
  obtain ⟨t, c, hg, ha⟩ := exists_byte_of_getBytes_succ h
  rw [getBytes_succ hg ha] at h
  cases h
  exact ⟨hg, ha⟩

/-! ### The blocks of the stream -/

/-- R140 to R144: a FETCH step takes the next byte of the stream. -/
theorem step_filled_withReader {s v u : State} (h : s.AtBlockStart) {p : List Byte} {b : Byte}
    (hp : p.length < 64) (hg : getByte v = .next u) (ha : u.answer = some (.byte b)) :
    step ((s.filled p s.src).withReader v.reader) =
      .next ((s.filled (p ++ [b]) s.src).withReader u.reader) := by
  have he : ((s.filled p s.src).withReader v.reader).est = .fetch := if_neg (Nat.ne_of_lt hp)
  refine step_execEnFetch_host_nil h.host he ?_
  have htake := congrArg (·.withReader u.reader) (filled_concat h.answer b s.src hp)
  rw [execEnFetch_eq he, byteStep, getByte_withReader hg ha]
  exact congrArg _ htake

/-- R147: the bytes of a block one by one, whatever phase they come from. -/
theorem run_filled_withReader {s v u : State} (h : s.AtBlockStart) {p : List Byte}
    (hp : p.length ≤ 64) (hv : getBytes p.length v = some (p, u)) :
    core.run p.length (s.withReader v.reader) =
      .next ((s.filled p s.src).withReader u.reader) := by
  induction p using List.reverseRecOn generalizing u with
  | nil => cases hv; rw [filled_nil h]; rfl
  | append_singleton p b ih =>
    rw [List.length_append, List.length_singleton] at hp hv ⊢
    obtain ⟨w, hw, hu⟩ := getBytes_split hv
    rw [List.take_left] at hw
    rw [List.drop_left] at hu
    obtain ⟨hg, ha⟩ := getBytes_one hu
    exact run_trans rfl (ih (by omega) hw) (run_succ core (step_filled_withReader h hp hg ha))

/-- R144, R194: after a whole block and its CHAIN the next block begins. -/
theorem atBlockStart_filled_engineAt {s : State} (h : s.AtBlockStart) {p : List Byte}
    (hp : p.length = 64) (r : Source) (x : Regs) :
    ((s.filled p r).engineAt x 63 .fetch).AtBlockStart where
  est := rfl
  phase := h.phase
  wordpos := show BitVec.ofNat 4 (p.length / 4) = 0 by rw [hp]; rfl
  bytepos := show BitVec.ofNat 2 p.length = 0 by rw [hp]; rfl
  host := h.host
  answer := h.answer

/-- R111, R202: a block of the stream is read and compressed in 130 steps. -/
theorem run_block_withReader {s v u : State} (h : s.AtBlockStart) {p : List Byte}
    (hp : p.length = 64) (hv : getBytes 64 v = some (p, u)) :
    ∃ t : State, core.run 130 (s.withReader v.reader) = .next (t.withReader u.reader) ∧
      t.AtBlockStart ∧ t.regs = compress (packBlock p) s.regs ∧ t.faultCode = s.faultCode := by
  rw [← hp] at hv
  have hfill := run_filled_withReader h (Nat.le_of_eq hp) hv
  rw [hp] at hfill
  obtain ⟨t, hrun, hregs, -, ht⟩ :=
    compressFoldsOneBlock ((s.filled p s.src).withReader u.reader) (if_pos hp) h.host
  have hM : ((s.filled p s.src).withReader u.reader).M = packBlock p :=
    filled_M_block s s.src hp
  rw [hM, withReader_regs, filled_regs] at hregs
  have ht' : t = ((s.filled p s.src).engineAt t.regs 63 .fetch).withReader u.reader := ht
  refine ⟨(s.filled p s.src).engineAt t.regs 63 .fetch, ?_,
    atBlockStart_filled_engineAt h hp _ _, hregs, rfl⟩
  rw [← ht']
  exact run_trans (by norm_num) hfill hrun

/-- R201: the blocks of the stream, folded through COMPRESS in order. -/
theorem run_blocks_withReader (n : Nat) {s v u : State} (h : s.AtBlockStart) {p : List Byte}
    (hp : p.length = 64 * n) (hv : getBytes (64 * n) v = some (p, u)) :
    ∃ t : State, core.run (130 * n) (s.withReader v.reader) = .next (t.withReader u.reader) ∧
      t.AtBlockStart ∧ t.regs = foldBlocks n p s.regs ∧ t.faultCode = s.faultCode := by
  induction n generalizing s v p with
  | zero => cases hv; exact ⟨s, rfl, h, rfl, rfl⟩
  | succ n ih =>
    rw [Nat.mul_succ, Nat.add_comm] at hv
    obtain ⟨w, hw, hu⟩ := getBytes_split hv
    obtain ⟨x, hrun, hx, hregs, hcode⟩ :=
      run_block_withReader h (List.length_take_of_le (by omega)) hw
    obtain ⟨t, hrun', ht, hregs', hcode'⟩ := ih hx (by rw [List.length_drop]; omega) hu
    refine ⟨t, run_trans (by omega) hrun hrun', ht, ?_, hcode'.trans hcode⟩
    rw [hregs', hregs, foldBlocks_succ]

/-! ### The end of the run -/

/-- R195, R196: with HOST gone a step in DONE or FAULT holds the state. -/
theorem step_of_not_busy {s : State} (hh : s.host = []) (hb : s.busy = false) :
    step s = .next s := by
  refine step_of_exec_host_nil hh ?_
  rw [current_of_undisturbed (undisturbed_of_host_nil hh)]
  cases he : s.est with
  | done => exact exec_enDone he
  | fault => exact exec_enFault he
  | _ => simp [State.busy, he] at hb

theorem exists_step_of_run_succ {n : Nat} {s t : State} (h : core.run (n + 1) s = .next t) :
    ∃ v, step s = .next v ∧ core.run n v = .next t := by
  have hstep : core.step s = step s := rfl
  cases hs : step s with
  | next v => exact ⟨v, rfl, run_succ core hs ▸ h⟩
  | fault r => simp [Host.Core.run, hstep, hs] at h
  | refused r => simp [Host.Core.run, hstep, hs] at h

theorem busy_of_busy_step {s t : State} (hh : s.host = []) (h : step s = .next t)
    (hb : t.busy = true) : s.busy = true := by
  by_contra hno
  rw [step_of_not_busy hh (by simpa using hno)] at h
  cases h
  exact hno hb

/-- R200: a run that is not over after `n` steps was not over before. -/
theorem busy_before {n k : Nat} (hk : k ≤ n) {s t : State} (hh : s.host = [])
    (hrun : core.run n s = .next t) (hb : t.busy = true) :
    ∃ u : State, core.run k s = .next u ∧ u.busy = true := by
  induction n generalizing s k with
  | zero =>
    cases hrun
    obtain rfl := Nat.le_zero.mp hk
    exact ⟨_, rfl, hb⟩
  | succ n ih =>
    obtain ⟨v, hs, hrest⟩ := exists_step_of_run_succ hrun
    have hv : v.host = [] := by rw [step_host hs, hh]; rfl
    cases k with
    | zero =>
      obtain ⟨_, hx, hbusy⟩ := ih (Nat.zero_le n) hv hrest
      cases hx
      exact ⟨s, rfl, busy_of_busy_step hh hs hbusy⟩
    | succ k =>
      rw [run_succ core hs]
      exact ih (Nat.le_of_succ_le_succ hk) hv hrest

/-- R128, R141: EndOfData at a block boundary ends the run. -/
theorem step_of_exhausted {s : State} (hh : s.host = []) (he : s.est = .fetch)
    (hp : s.phase = .exhausted) (hk : s.bytepos = 0) :
    step s = .next { s with est := .done, answer := none } :=
  step_execEnFetch_host_nil hh he (endOfDataEndsTheRun s he hp hk).1

/-- Settles O59: the padded stream block by block, then EndOfData; DONE and FAULT are never left. -/
theorem runComputesTheDigest : Obligations.RunComputesTheDigest := by
  intro msg source rest hsrc
  obtain ⟨-, -, u, hstream, hexh, hrest, -⟩ :=
    readerProducesThePaddedStream msg rest (State.reset.connect source) rfl rfl rfl hsrc
  have hlen := (length_paddedStream msg).trans (length_eq_blocks _)
  rw [hlen] at hstream
  obtain ⟨t, hrun, ht, hregs, hcode⟩ :=
    run_blocks_withReader _ (atBlockStart_reset source) hlen hstream
  rw [withReader_reader, Nat.mul_comm] at hrun
  refine ⟨?_, fun k hk => ?_⟩
  · have hend := step_of_exhausted (s := t.withReader u.reader) ht.host ht.est hexh ht.bytepos
    exact ⟨_, run_trans rfl hrun (run_succ core hend), rfl, hregs, hrest, hcode⟩
  · have hbusy : (t.withReader u.reader).busy = true := by
      simp [State.busy, State.withReader, ht.est]
    obtain ⟨v, hv, hb⟩ := busy_before hk rfl hrun hbusy
    obtain ⟨hdone, hfault⟩ := busy_iff.mp hb
    exact ⟨v, hv, by simp [State.digestValid, hdone], by simp [State.faultFlag, hfault]⟩

end Sys2Proof.Machine
end

section
/-! PROOFS. The one fault of the core is precise (R214), and only RESET leaves DONE or FAULT (R216,
R241, R246). -/

namespace Sys2Proof.Machine

/-- Settles O26: EN.FETCH on a failure of SRC is the fault entry, at every position. -/
theorem readFailureIsPrecise : Obligations.ReadFailureIsPrecise :=
  fun _ _ he hp hs => execEnFetch_of_fail he hp hs

/-- R195, R196: where HOST leaves the step to the core, DONE and FAULT hold the state. -/
theorem exec_current_of_done_or_fault {s : State} (hu : s.undisturbed = true)
    (he : s.est = .done ∨ s.est = .fault) : exec s.current s = .next s := by
  rw [current_of_undisturbed hu]
  rcases he with he | he
  · rw [he]
    exact exec_enDone he
  · rw [he]
    exact exec_enFault he

/-- Settles O39: without `rst` HOST reads one of the two outputs, or the core holds. -/
theorem onlyResetLeavesDoneAndFault : Obligations.OnlyResetLeavesDoneAndFault := by
  intro s he hr
  obtain ⟨hdigest, hhex⟩ := readingOutputsHasNoSideEffect s
  rcases host_cases s with ⟨hh, -⟩ | ⟨hh, -⟩ | ⟨hh, -⟩ | ⟨hu, -⟩
  · exact absurd hh hr
  · exact ⟨_, hdigest hh, rfl⟩
  · exact ⟨_, hhex hh, rfl⟩
  · exact ⟨_, step_of_exec (exec_current_of_done_or_fault hu he), rfl⟩

end Sys2Proof.Machine
end
